-- ==== Sys2Proof/Word.lean ====
section
/-! DEFINITION. The words the manual treats as bits: bytes of the link and the store, the 16-bit wrapping
numbers, and part time (R1, an unsigned 48-bit count of microseconds that wraps). -/

namespace Sys2Proof

/-- One byte of a link frame, an echo record or a store block. -/
abbrev Byte := BitVec 8

/-- A 16-bit number that wraps: sensor and output frame numbers, gain map versions, sequence numbers, CRCs. -/
abbrev Word16 := BitVec 16

/-- The 32-bit CRC register of the image signature (R14). -/
abbrev Word32 := BitVec 32

/-- Part time (R1): addition and subtraction are modulo 2^48. -/
abbrev PartTime := BitVec 48

end Sys2Proof
end

