-- ==== Sys2Proof/Syntax.lean ====
section
/-! DEFINITION. The commands of the part: one constructor for each row of spec/opcode_table.json, with what the
arrival, expiry or request of that row carries (12_formats R203, R206, R208). -/

namespace Sys2Proof

/-- A side of the vehicle (00_scope 3.1): side code 0 is L, 1 is R. -/
inductive Side where
  | left
  | right
  deriving DecidableEq, Repr

/-- The three vehicle signals of R98. -/
inductive Signal where
  | speed
  | reverse
  | angle
  deriving DecidableEq, Repr

/-- The commands. A request row is the close of a request window whose frame names that kind and passes the
framing of R173: it carries the frame's tag and payload bytes. -/
inductive Instr where
  /-- Power is applied (R177, R184). -/
  | powerOn
  /-- Power is lost (R198). -/
  | powerLoss
  /-- The init timer expires; `wakeHigh` is the level of the wake line as the completion reads it (R177). -/
  | initCompletion (wakeHigh : Bool)
  /-- VSYNC of the side expires (R4). -/
  | vsyncExpiry (side : Side)
  /-- The camera trigger of the side expires (R5). -/
  | camTriggerExpiry (side : Side)
  /-- A frame start with its embedded data: sensor frame number, E_frame, frame length in lines (R10, R208). -/
  | frameStartArrival (side : Side) (number exposure length : Word16)
  /-- A line, as the bytes the camera sent, two for each pixel code (R13, R208). -/
  | lineArrival (side : Side) (bytes : List Byte)
  /-- A frame end (R15). -/
  | frameEndArrival (side : Side)
  /-- The link-lost timer of the side expires (R17). -/
  | linkLostTimerExpiry (side : Side)
  /-- The Exposure Controller takes its oldest untaken statistics completion (R43). -/
  | exposureCompletionTaken (side : Side)
  /-- The Glare Tracker takes its oldest untaken statistics completion (R54). -/
  | glareCompletionTaken (side : Side)
  /-- The idle channel sends its oldest pending transaction (R24). -/
  | dispatch (side : Side)
  /-- An acknowledgement record whose answer byte should be 0, ACK (R25, R208). -/
  | ackArrival (side : Side) (answer attempt : Byte)
  /-- An acknowledgement record whose answer byte should be 1, NACK (R26, R208). -/
  | nackArrival (side : Side) (answer attempt : Byte)
  /-- The transaction timer of the side expires (R26). -/
  | transactionTimerExpiry (side : Side)
  /-- A complete echo record: side code, output frame number, tag CRC (R128, R206). -/
  | echoArrival (side : Side) (code : Byte) (number crc : Word16)
  /-- The echo timer of the side expires (R132). -/
  | echoTimerExpiry (side : Side)
  /-- The idle timer of the side's echo receiver expires (R206). -/
  | echoIdleTimerExpiry (side : Side)
  /-- The start timer of the side expires (R147). -/
  | startTimerExpiry (side : Side)
  /-- The freshness timer of a vehicle signal expires (R100). -/
  | freshnessTimerExpiry (signal : Signal)
  /-- The INSPECT duration timer of the side expires (R104). -/
  | inspectDurationExpiry (side : Side)
  /-- The wake timer expires (R182). -/
  | wakeTimerExpiry
  /-- The wake line rises (R183). -/
  | wakeLineRisingEdge
  /-- A supply reading in millivolts and a temperature reading in degrees Celsius (R164). -/
  | sample (supply : Nat) (temperature : Int)
  /-- The timer of a SAVE_PROFILE phase other than the last expires (R196). -/
  | saveProfilePhaseExpiry
  /-- The timer of the last phase of the store operation in flight expires (R194). -/
  | storeOperationCompletion
  /-- The reset that waited for a store operation is made (R184). -/
  | deferredReset
  /-- QUIESCING ends (R181). -/
  | enterStandby
  /-- Chip-select falls: a link window opens (R170, R171). -/
  | chipSelectFalling
  /-- A collect window closes after `clocked` whole bytes beyond its first byte 0x5A (R172). -/
  | collectWindow (clocked : Nat)
  /-- A poll window closes; `bytes` are all the whole bytes the host clocked (R170). -/
  | pollWindow (bytes : List Byte)
  /-- A request window closes; `bytes` are the bytes after its first byte 0xA5 (R173). -/
  | requestWindowClose (bytes : List Byte)
  /-- R179. -/
  | status (tag : Byte) (payload : List Byte)
  /-- R180. -/
  | identify (tag : Byte) (payload : List Byte)
  /-- R143. -/
  | startView (tag : Byte) (payload : List Byte)
  /-- R148. -/
  | stopView (tag : Byte) (payload : List Byte)
  /-- R8. -/
  | setTiming (tag : Byte) (payload : List Byte)
  /-- R99. -/
  | vehicleState (tag : Byte) (payload : List Byte)
  /-- R97. -/
  | adjustView (tag : Byte) (payload : List Byte)
  /-- R103. -/
  | inspect (tag : Byte) (payload : List Byte)
  /-- R104. -/
  | endInspect (tag : Byte) (payload : List Byte)
  /-- R73. -/
  | setGlare (tag : Byte) (payload : List Byte)
  /-- R91. -/
  | setTone (tag : Byte) (payload : List Byte)
  /-- R47. -/
  | setExposureLimits (tag : Byte) (payload : List Byte)
  /-- R72. -/
  | readGlare (tag : Byte) (payload : List Byte)
  /-- R160. -/
  | fetchReports (tag : Byte) (payload : List Byte)
  /-- R166. -/
  | readHealth (tag : Byte) (payload : List Byte)
  /-- R169. -/
  | readCounters (tag : Byte) (payload : List Byte)
  /-- R152. -/
  | restoreView (tag : Byte) (payload : List Byte)
  /-- R187. -/
  | storeUnlock (tag : Byte) (payload : List Byte)
  /-- R189. -/
  | storeRead (tag : Byte) (payload : List Byte)
  /-- R190. -/
  | storeWrite (tag : Byte) (payload : List Byte)
  /-- R191. -/
  | storeErase (tag : Byte) (payload : List Byte)
  /-- R192. -/
  | storeProtect (tag : Byte) (payload : List Byte)
  /-- R193. -/
  | storeLockFactory (tag : Byte) (payload : List Byte)
  /-- R197. -/
  | loadProfile (tag : Byte) (payload : List Byte)
  /-- R196. -/
  | saveProfile (tag : Byte) (payload : List Byte)
  /-- R181. -/
  | standby (tag : Byte) (payload : List Byte)
  /-- R182. -/
  | wake (tag : Byte) (payload : List Byte)
  /-- R184. -/
  | reset (tag : Byte) (payload : List Byte)
  /-- A byte on the echo back-channel (R206). -/
  | echoRecordByteArrival (side : Side) (byte : Byte)
  deriving DecidableEq, Repr

end Sys2Proof
end

