-- ==== Sys2Proof/Decode.lean ====
section
/-! DEFINITION. Reading a command from a word of table bits. No row of spec/opcode_table.json gives bits (the part
takes commands, not encoded instructions), so no word spells a command. The byte layouts that the manual does give
(link frames, payloads, records) are read where the commands that carry them are taken. -/

namespace Sys2Proof

/-- The command that a word spells by the table's bits: none, because the table gives no row any bits. -/
def decodeTableWord (_nbits _w : Nat) : Option Instr :=
  none

end Sys2Proof
end

