-- ==== Sys2Proof/Config.lean ====
section
/-! DEFINITION. What the manual leaves open as a value: constants without a body, so that nothing can be proved of
the value they give. All but `replyKindOverflow` are read at the state's `freeCount`, which then advances (log 10). -/

namespace Sys2Proof.Config

/-- R198: whether the n-th byte (or lock) that an interrupted phase was to change took its new value.
UNVERIFIED by any source: the manual says either may be found (log 9). -/
opaque lossTakesNew : Nat → Bool

/-- R184: how many bytes of an open link window had been shifted out when a reset was made in it; the bytes
after them are 0x00. The manual gives the rule and no number (log 8). -/
opaque bytesBeforeReset : Nat → Nat

/-- R202: the kind byte of the reply to a kind of 0x80 or more, where kind + 0x80 does not fit one byte and the
manual states no result (log 32). -/
opaque replyKindOverflow : Nat → Byte

/-- R163, R164: the supply reading of a sample that the part takes of its own, in millivolts: any from 0 to 5,000
(log 22). -/
opaque supplyReading : Nat → Fin 5001

/-- R163, R164: the temperature reading of a sample that the part takes of its own, in degrees Celsius above −50: any
from −50 to 200 (log 22). -/
opaque temperatureReading : Nat → Fin 251

end Sys2Proof.Config
end

