-- ==== Sys2Proof/Machine/State.lean ====
section
/-! DEFINITION. The state of the part, block by block, as plain data; the reasons a step can stop; and the state
right after reset. INVENTORY.md lists every field with the rule that names it. -/

namespace Sys2Proof.Machine

/-! ## Time base, triggers and timing (chapter 1) -/

/-- A timer (R1): armed when it holds an expiry time. -/
abbrev Timer := Option PartTime

/-- Camera sync mode (R8): 0 is TRIGGERED, 1 is FOLLOW. -/
inductive SyncMode where
  | triggered
  | follow
  deriving DecidableEq, Repr

/-- The record every trigger holds (R2). -/
structure Trigger where
  armed : Bool
  next : PartTime
  period : Nat
  deriving DecidableEq, Repr

/-- The timing settings of R8. -/
structure Timing where
  framePeriod : Nat
  cameraLead : Nat
  modeLeft : SyncMode
  modeRight : SyncMode
  tolerance : Nat
  deriving DecidableEq, Repr

/-- The frame in progress at a Camera Input Port (R9). -/
structure FrameInProgress where
  captureTime : PartTime
  number : Word16
  exposure : Nat
  length : Nat
  lineCount : Nat
  shapeGood : Bool
  signature : Word32
  deriving DecidableEq, Repr

/-- The Camera Input Port (R9). It is RECEIVING exactly while it holds a frame in progress. -/
structure Port where
  frame : Option FrameInProgress
  prevNumber : Option Word16
  prevSignature : Option Word32
  frozenRun : Nat
  linkLost : Timer
  deriving DecidableEq, Repr

/-! ## Camera control channel and phase follower (chapter 2) -/

/-- A camera transaction with its value (R21). -/
inductive Transaction where
  | streamOn (mode : SyncMode) (period : Nat)
  | streamOff
  | setExposure (exposure : Nat)
  | adjustLength (lines : Int)
  deriving DecidableEq, Repr

/-- The transaction in flight with its attempt number and retry flag (R20). -/
structure Flight where
  transaction : Transaction
  attempt : Byte
  retried : Bool
  deriving DecidableEq, Repr

/-- The Camera Control Channel (R20). -/
structure Channel where
  queue : List Transaction
  inFlight : Option Flight
  timer : Timer
  attempt : Byte
  deriving DecidableEq, Repr

/-- The Phase Follower (R30). -/
structure Follower where
  outstanding : Bool
  outRun : Nat
  inRun : Nat
  deriving DecidableEq, Repr

/-! ## Statistics, exposure and night state (chapter 3) -/

/-- A tile record of a collecting set (R36). -/
structure TileRecord where
  sum : Nat
  peak : Nat
  hot : Nat
  deriving DecidableEq, Repr

/-- The collecting set with the latched glare level, the frame's E_frame and the one-line store (R36, R37). -/
structure Collecting where
  tiles : List TileRecord
  exposure : Nat
  glareLevel : Nat
  evenLine : Option (List Nat)
  deriving DecidableEq, Repr

/-- A tile record of a completed set, with its mean (R36). -/
structure TileSummary where
  sum : Nat
  peak : Nat
  hot : Nat
  mean : Nat
  deriving DecidableEq, Repr

/-- A completed set, which a statistics completion carries (R36, R39). -/
structure Completed where
  tiles : List TileSummary
  exposure : Nat
  glareLevel : Nat
  deriving DecidableEq, Repr

/-- The Statistics Unit (R36). -/
structure Statistics where
  collecting : Option Collecting
  completed : Option Completed
  deriving DecidableEq, Repr

/-- The five exposure settings (R42). -/
structure ExposureLimits where
  emin : Nat
  emax : Nat
  target : Nat
  eOn : Nat
  eOff : Nat
  deriving DecidableEq, Repr

/-- The night state of a side (R42). -/
inductive NightState where
  | day
  | night
  deriving DecidableEq, Repr

/-- The Exposure Controller (R42); `waiting` holds the completions signalled to it and not yet taken (R41). -/
structure Exposure where
  commanded : Nat
  limits : ExposureLimits
  night : NightState
  nightRun : Nat
  waiting : List Completed
  deriving DecidableEq, Repr

/-! ## Glare tracking (chapter 4) -/

/-- A box of tiles, both ranges inclusive (R44, R56). -/
structure Box where
  column0 : Nat
  row0 : Nat
  column1 : Nat
  row1 : Nat
  deriving DecidableEq, Repr

/-- The seven glare settings of a side (R53). -/
structure GlareSettings where
  level : Nat
  minHot : Nat
  cap : Nat
  ceiling : Nat
  floor : Nat
  rampDown : Nat
  rampUp : Nat
  deriving DecidableEq, Repr

/-- A region of hot tiles (R52, R56); its hot tile count is the number of its tiles. -/
structure Region where
  box : Box
  peak : Nat
  tiles : List Nat
  first : Nat
  matched : Option Nat
  deriving DecidableEq, Repr

/-- The state of a glare entry (R58). -/
inductive EntryState where
  | candidate
  | confirmed
  | fading
  deriving DecidableEq, Repr

/-- The grant flag of a glare entry (R58). -/
inductive Grant where
  | none
  | granted
  | denied
  deriving DecidableEq, Repr

/-- An entry of the glare table (R58). -/
structure GlareEntry where
  ident : Nat
  state : EntryState
  seen : Nat
  missed : Nat
  box : Box
  peak : Nat
  grant : Grant
  age : Nat
  deriving DecidableEq, Repr

/-- The Glare Tracker (R52); `waiting` holds the completions signalled to it and not yet taken (R41). -/
structure Glare where
  table : List GlareEntry
  counter : Nat
  regions : List Region
  formed : Nat
  kept : Nat
  settings : GlareSettings
  waiting : List Completed
  deriving DecidableEq, Repr

/-! ## Gain map and tone (chapter 5) -/

/-- The published gain map with its version (R74). -/
structure GainMap where
  gains : List Nat
  version : Word16
  deriving DecidableEq, Repr

/-- The latched set of the Tone Stage (R81). -/
structure Latched where
  map : GainMap
  key : Nat
  table : List Nat
  deriving DecidableEq, Repr

/-- The Tone Stage (R81). -/
structure Tone where
  key : Nat
  table : List Nat
  latched : Option Latched
  deriving DecidableEq, Repr

/-! ## View geometry and vehicle signals (chapter 6) -/

/-- A window: origin and size in sensor coordinates (R93). -/
structure Window where
  x : Nat
  y : Nat
  w : Nat
  h : Nat
  deriving DecidableEq, Repr

/-- The INSPECT preset (R103). -/
inductive Preset where
  | curb
  | axle
  deriving DecidableEq, Repr

/-- The override list (R102). It holds at most one entry of each kind in priority order, so it is kept as which
kinds are present and what each carries. -/
structure Overrides where
  inspect : Option Preset
  maneuver : Bool
  turnFollow : Option Nat
  deriving DecidableEq, Repr

/-- The View Geometry Unit (R93). -/
structure Geometry where
  bounds : Window
  baseMain : Window
  baseWide : Window
  curb : Window
  axle : Window
  maneuver : Window
  panGain : Nat
  markers : List (Option Nat)
  overrides : Overrides
  mainInForce : Window
  wideInForce : Window
  mainShown : Window
  wideShown : Window
  inspectTimer : Timer
  deriving DecidableEq, Repr

/-- Freshness, arrived flag and freshness timer of a vehicle signal (R98). -/
structure SignalStatus where
  fresh : Bool
  arrived : Bool
  timer : Timer
  deriving DecidableEq, Repr

/-- The Vehicle Signal Table (R98). -/
structure SignalTable where
  speed : Nat
  reverse : Bool
  angle : Int
  speedStatus : SignalStatus
  reverseStatus : SignalStatus
  angleStatus : SignalStatus
  deriving DecidableEq, Repr

/-! ## Frame ring and display port (chapter 7) -/

/-- The state of a ring slot (R113). -/
inductive SlotState where
  | free
  | writing
  | ready
  | showing
  deriving DecidableEq, Repr

/-- The frame record of a slot (R113). -/
structure FrameRecord where
  number : Word16
  captureTime : PartTime
  exposure : Nat
  version : Word16
  useCount : Nat
  deriving DecidableEq, Repr

/-- A ring slot (R113). The developed frame is kept by sensor rows: (row, its 1,920 codes). -/
structure Slot where
  state : SlotState
  record : Option FrameRecord
  rows : List (Nat × List Nat)
  deriving DecidableEq, Repr

/-- The Frame Ring: slots 0, 1 and 2 (R113). -/
structure Ring where
  slot0 : Slot
  slot1 : Slot
  slot2 : Slot
  deriving DecidableEq, Repr

/-- An entry of the shown-frame history (R121). -/
structure Shown where
  number : Word16
  captureTime : Option PartTime
  crc : Word16
  deriving DecidableEq, Repr

/-- The visible content of an output frame (R122): a pattern, or an image of developed rows cut by the two
displayed windows, with the display rows of its markers and the degraded marker. -/
inductive Content where
  | startingPattern
  | blankedPattern
  | image (rows : List (Nat × List Nat)) (main wide : Window) (markerRows : List Nat) (degraded : Bool)
  deriving DecidableEq, Repr

/-- An output frame: its tag line bytes and its visible content (R122). -/
structure OutputFrame where
  tag : List Byte
  content : Content
  deriving DecidableEq, Repr

/-- The Display Port (R119, R121); `sending` is the output frame begun at the latest VSYNC (R122, R133). -/
structure Display where
  repeatLimit : Nat
  latencyBudget : Nat
  number : Word16
  begun : Bool
  history : List Shown
  echoTimer : Timer
  mismatchRun : Nat
  matchRun : Nat
  overRun : Nat
  withinRun : Nat
  received : List Byte
  idleTimer : Timer
  sending : Option OutputFrame
  deriving DecidableEq, Repr

/-! ## Fault supervision (chapter 8) -/

/-- The eighteen fault kinds (R134). -/
inductive FaultKind where
  | linkLost
  | frameMalformed
  | sensorFrozen
  | displayRepeat
  | latencyOver
  | echoLost
  | tagMismatch
  | sideCrossed
  | triggerLate
  | cameraControlFail
  | startTimeout
  | calibrationDamaged
  | vehicleSignalStale
  | supplyLow
  | supplyCritical
  | tempHigh
  | tempCritical
  | phaseUnlocked
  deriving DecidableEq, Repr

/-- How a kind stands in an active fault set (R136). -/
inductive Member where
  | absent
  | active
  | held
  deriving DecidableEq, Repr

/-- An active fault set (R136): no order, no kind twice, so one member for each kind. -/
structure FaultSet where
  linkLost : Member
  frameMalformed : Member
  sensorFrozen : Member
  displayRepeat : Member
  latencyOver : Member
  echoLost : Member
  tagMismatch : Member
  sideCrossed : Member
  triggerLate : Member
  cameraControlFail : Member
  startTimeout : Member
  calibrationDamaged : Member
  vehicleSignalStale : Member
  supplyLow : Member
  supplyCritical : Member
  tempHigh : Member
  tempCritical : Member
  phaseUnlocked : Member
  deriving DecidableEq, Repr

/-- The view state of a side (section 8.3). -/
inductive ViewState where
  | off
  | starting
  | normal
  | degraded
  | blanked
  deriving DecidableEq, Repr

/-- What the Fault Supervisor holds for a side (R136, R141); the start timeout is in milliseconds. -/
structure Supervision where
  view : ViewState
  startTimer : Timer
  startTimeout : Nat
  faults : FaultSet
  deriving DecidableEq, Repr

/-- The twelve counters of a side (R168). -/
structure Counters where
  framesCaptured : Nat
  malformed : Nat
  dropped : Nat
  repeated : Nat
  echoes : Nat
  echoesUnknown : Nat
  neverEchoed : Nat
  tagMismatches : Nat
  triggersLate : Nat
  cameraRetries : Nat
  regionsOverflowed : Nat
  grantsDenied : Nat
  deriving DecidableEq, Repr

/-- The blocks of one side. `held` is the hold start time of a held camera trigger (R2). -/
structure SideState where
  vsync : Trigger
  cam : Trigger
  held : Option PartTime
  port : Port
  channel : Channel
  follower : Follower
  stats : Statistics
  exposure : Exposure
  glare : Glare
  gain : GainMap
  tone : Tone
  geometry : Geometry
  ring : Ring
  display : Display
  sup : Supervision
  counters : Counters
  deriving DecidableEq, Repr

/-! ## Reports and health (chapter 9) -/

/-- The direction of a transition (R156). -/
inductive Direction where
  | raised
  | cleared
  deriving DecidableEq, Repr

/-- The record scope (R156). -/
inductive Scope where
  | left
  | right
  | device
  deriving DecidableEq, Repr

/-- The flag class of a transition (R156). -/
inductive FlagClass where
  | plain
  | held
  | restored
  deriving DecidableEq, Repr

/-- A transition of an active fault set that an event hands to the Report Queue (R140, R156). -/
structure Transition where
  kind : FaultKind
  direction : Direction
  scope : Scope
  flag : FlagClass
  deriving DecidableEq, Repr

/-- A stored fault record (R158). -/
structure Record where
  sequence : Word16
  time : PartTime
  scope : Scope
  direction : Direction
  kinds : List FaultKind
  flag : FlagClass
  more : Bool
  viewLeft : ViewState
  viewRight : ViewState
  missed : Nat
  deriving DecidableEq, Repr

/-- The Report Queue (R159). -/
structure Reports where
  records : List Record
  next : Word16
  missed : Nat
  deriving DecidableEq, Repr

/-- The four thresholds (R165). -/
structure Thresholds where
  supplyLow : Nat
  supplyCrit : Nat
  tempHigh : Int
  tempCrit : Int
  deriving DecidableEq, Repr

/-- One flag for each level, in the order of R164. -/
structure Levels where
  supplyLow : Bool
  supplyCrit : Bool
  tempHigh : Bool
  tempCrit : Bool
  deriving DecidableEq, Repr

/-- The Health Monitor (R163); `nextSample` is the part time of its next sample. -/
structure Health where
  nextSample : PartTime
  supply : Option Nat
  temperature : Option Int
  thresholds : Thresholds
  entered : Levels
  sticky : Levels
  minSupply : Option Nat
  maxTemperature : Option Int
  deriving DecidableEq, Repr

/-! ## Control link and part states (chapter 10) -/

/-- The part states (section 10.3). -/
inductive PartState where
  | init
  | active
  | quiescing
  | standby
  deriving DecidableEq, Repr

/-- A pending wake (R177). -/
inductive Wake where
  | request
  | line
  deriving DecidableEq, Repr

/-- The result codes (R176). -/
inductive ResultCode where
  | ok
  | clamped
  | started
  | refusedState
  | storeBusy
  | isProtected
  | notUnlocked
  | vehicleMoving
  | damaged
  | badFrame
  | unknownKind
  | badLength
  | badValue
  deriving DecidableEq, Repr

/-- The request kinds (R203). -/
inductive RequestKind where
  | status
  | identify
  | startView
  | stopView
  | setTiming
  | vehicleState
  | adjustView
  | inspect
  | endInspect
  | setGlare
  | setTone
  | setExposureLimits
  | readGlare
  | fetchReports
  | readHealth
  | readCounters
  | restoreView
  | storeUnlock
  | storeRead
  | storeWrite
  | storeErase
  | storeProtect
  | storeLockFactory
  | loadProfile
  | saveProfile
  | standby
  | wake
  | reset
  deriving DecidableEq, Repr

/-- An open link window (R170 to R172): the status byte and the slot's contents at its opening, and whether a
reset was made while it was open (R184). -/
structure LinkWindow where
  status : Byte
  reply : Option (List Byte)
  spannedReset : Bool
  deriving DecidableEq, Repr

/-- The Control Link Interface (R175, R177, R180); `resetPending` holds the tag of the waiting RESET. -/
structure Link where
  part : PartState
  initTimer : Timer
  wakeTimer : Timer
  pendingWake : Option Wake
  resetPending : Option Byte
  slot : Option (List Byte)
  lost : Bool
  frames : Nat
  badFrames : Nat
  lostReplies : Nat
  window : Option LinkWindow
  partCode : Word16
  wakeLine : Bool
  deriving DecidableEq, Repr

/-! ## Calibration and profile store (chapter 11) -/

/-- What a store operation in flight is to do (R186): for SAVE_PROFILE, the profile, its 256 bytes and the phase
in progress, 1 to 4 (R196). -/
inductive StoreWork where
  | write (block offset : Nat) (data : List Byte)
  | erase (block : Nat)
  | lock
  | save (profile : Nat) (bytes : List Byte) (phase : Nat)
  deriving DecidableEq, Repr

/-- The operation in flight with its completion timer (R186). -/
structure StoreOperation where
  work : StoreWork
  expiry : PartTime
  deriving DecidableEq, Repr

/-- The Calibration Store (R185, R186). `cells` lists (128 × block + offset, byte) with rising addresses and no
entry of 0xFF, the value of an erased byte, which an unlisted address reads as. -/
structure Store where
  cells : List Host.Cell
  factoryLock : Bool
  latch : Bool
  boundary : Nat
  operation : Option StoreOperation
  completedOk : Bool
  deriving DecidableEq, Repr

/-! ## The part -/

/-- What the part sends out in an event (log 20). -/
inductive Output where
  /-- An exposure trigger pulse to a camera (R5). -/
  | pulse (side : Side)
  /-- A transaction to a camera, as its bytes (R24, R208). -/
  | transaction (side : Side) (bytes : List Byte)
  /-- The bytes shifted out in a link window (R170). -/
  | shifted (bytes : List Byte)
  deriving DecidableEq, Repr

/-- The state of the part, with the queue of commands that wait. -/
structure State where
  now : PartTime
  timing : Timing
  left : SideState
  right : SideState
  signals : SignalTable
  reports : Reports
  health : Health
  link : Link
  store : Store
  powered : Bool
  out : List Output
  handed : List Transition
  freeCount : Nat
  pending : List Instr
  deriving DecidableEq, Repr

/-- Reasons to stop with a fault. No command of this part ends in one: the spec describes what each command does
in every state, or it is discarded. The constructor is safe: nothing raises it. -/
inductive Fault where
  /-- Raised by no command: the part has no machine fault (INVENTORY, Faults). Safe. -/
  | noMachineFault
  deriving DecidableEq, Repr

/-- Reasons to refuse a command. -/
inductive Refusal where
  /-- Raised by an arm of `exec` whose command has no meaning yet. Safe: the machine stops. No arm raises it now. -/
  | notModelled (mnemonic : String)
  deriving DecidableEq, Repr

/-! ## The state after reset -/

/-- The full active area (R94, R199). -/
def fullArea : Window := ⟨0, 0, 1920, 1080⟩

/-- The default tone table (R81): 1,023 multiplied by the square root of i / 64, rounded down. -/
def defaultToneTable : List Nat :=
  [0, 127, 180, 221, 255, 285, 313, 338, 361, 383, 404, 424, 442,
    461, 478, 495, 511, 527, 542, 557, 571, 585, 599, 613, 626, 639,
    652, 664, 676, 688, 700, 711, 723, 734, 745, 756, 767, 777, 788,
    798, 808, 818, 828, 838, 848, 857, 867, 876, 885, 895, 904, 913,
    922, 930, 939, 948, 956, 965, 973, 982, 990, 998, 1006, 1014, 1023]

/-- A gain map of 4,096 in every tile (R74, R78). -/
def unityGains : List Nat := List.replicate 192 4096

/-- Defaults of R42. -/
def defaultLimits : ExposureLimits := ⟨1, 4096, 40000, 400, 200⟩

/-- Defaults of R53. -/
def defaultGlare : GlareSettings := ⟨300000, 8, 25, 60000, 512, 512, 256⟩

/-- Defaults of R165. -/
def defaultThresholds : Thresholds := ⟨3000, 2900, 115, 125⟩

/-- The empty active fault set (R136). -/
def emptyFaults : FaultSet :=
  ⟨.absent, .absent, .absent, .absent, .absent, .absent, .absent, .absent, .absent,
   .absent, .absent, .absent, .absent, .absent, .absent, .absent, .absent, .absent⟩

/-- A disarmed trigger (R2); its next-fire time and period are then without meaning, DESIGN CHOICE 0 (log 14). -/
def disarmedTrigger : Trigger := ⟨false, 0, 0⟩

/-- A FREE slot holds no frame record (R113). -/
def freeSlot : Slot := ⟨.free, none, []⟩

/-- The View Geometry Unit from power-on to the init completion (R93, R199). -/
def resetGeometry : Geometry :=
  { bounds := fullArea, baseMain := fullArea, baseWide := fullArea,
    curb := fullArea, axle := fullArea, maneuver := fullArea, panGain := 12,
    markers := [none, none, none], overrides := ⟨none, false, none⟩,
    mainInForce := fullArea, wideInForce := fullArea, mainShown := fullArea, wideShown := fullArea,
    inspectTimer := none }

/-- The Display Port at power-on and RESET (R119, R121). -/
def resetDisplay : Display :=
  { repeatLimit := 3, latencyBudget := 50000, number := 0, begun := false, history := [], echoTimer := none,
    mismatchRun := 0, matchRun := 0, overRun := 0, withinRun := 0, received := [], idleTimer := none,
    sending := none }

/-- Every counter 0 (R168). -/
def zeroCounters : Counters := ⟨0, 0, 0, 0, 0, 0, 0, 0, 0, 0, 0, 0⟩

/-- The blocks of a side at power-on and RESET (R2, R9, R20, R30, R36, R42, R52, R74, R81, R93, R113, R121, R136,
R141, R168). -/
def resetSide : SideState :=
  { vsync := disarmedTrigger, cam := disarmedTrigger, held := none,
    port := ⟨none, none, none, 0, none⟩,
    channel := ⟨[], none, none, 0⟩,
    follower := ⟨false, 0, 0⟩,
    stats := ⟨none, none⟩,
    exposure := ⟨1, defaultLimits, .day, 0, []⟩,
    glare := ⟨[], 0, [], 0, 0, defaultGlare, []⟩,
    gain := ⟨unityGains, 0⟩,
    tone := ⟨256, defaultToneTable, none⟩,
    geometry := resetGeometry,
    ring := ⟨freeSlot, freeSlot, freeSlot⟩,
    display := resetDisplay,
    sup := ⟨.off, none, 2000, emptyFaults⟩,
    counters := zeroCounters }

/-- A signal that has never arrived (R98). -/
def staleSignal : SignalStatus := ⟨false, false, none⟩

/-- The part right after power-on (R177, R184), its store as it leaves the factory (R185, log 5). -/
def State.reset : State :=
  { now := 0,
    timing := ⟨16667, 19000, .triggered, .triggered, 100⟩,
    left := resetSide,
    right := resetSide,
    signals := ⟨0, false, 0, staleSignal, staleSignal, staleSignal⟩,
    reports := ⟨[], 0, 0⟩,
    health := ⟨1000, none, none, defaultThresholds, ⟨false, false, false, false⟩, ⟨false, false, false, false⟩,
      none, none⟩,
    link := { part := .init, initTimer := some 5000, wakeTimer := none, pendingWake := none, resetPending := none,
              slot := none, lost := false, frames := 0, badFrames := 0, lostReplies := 0, window := none,
              partCode := 0, wakeLine := false },
    store := ⟨[], false, false, 8, none, false⟩,
    powered := true,
    out := [],
    handed := [],
    freeCount := 0,
    pending := [] }

end Sys2Proof.Machine
end

