-- ==== Sys2Proof/Machine/Ops.lean ====
section
/-! DEFINITION. The named operations over the state that every block uses: the sides, the bounds of an event, time
and timers, saturating counters, rounding and clamping, byte order, the two CRCs, and the cells of the store. -/

namespace Sys2Proof.Machine

/-! ## Sides -/

/-- The blocks of a side. -/
def State.side (s : State) : Side → SideState
  | .left => s.left
  | .right => s.right

/-- The state with the blocks of one side replaced. -/
def State.setSide (s : State) (x : Side) (d : SideState) : State :=
  match x with
  | .left => { s with left := d }
  | .right => { s with right := d }

/-- The state with the blocks of one side changed. -/
def State.onSide (s : State) (x : Side) (f : SideState → SideState) : State :=
  s.setSide x (f (s.side x))

/-- Side code of 00_scope 3.1: 0 for L, 1 for R. -/
def sideCode : Side → Nat
  | .left => 0
  | .right => 1

/-- The sync mode of the camera of a side (R8). -/
def State.syncMode (s : State) : Side → SyncMode
  | .left => s.timing.modeLeft
  | .right => s.timing.modeRight

/-! ## One event -/

/-- The start of an event: nothing sent out yet and no transition handed on yet (log 20). -/
def State.beginEvent (s : State) : State :=
  { s with out := [], handed := [] }

/-- An event of a part that has power. Without power nothing but POWER_ON is taken (log 4). -/
def event (s : State) (f : State → State) : Host.Outcome State Fault Refusal :=
  .next (if s.powered then f s.beginEvent else s.beginEvent)

/-- What the event sends out, in order. -/
def State.emit (s : State) (o : Output) : State :=
  { s with out := s.out ++ [o] }

/-- The transitions the event hands to the Report Queue, in order (R140). -/
def State.hand (s : State) (t : Transition) : State :=
  { s with handed := s.handed ++ [t] }

/-! ## Part time (R1) -/

/-- The duration from b to a. -/
def duration (a b : PartTime) : Nat :=
  (a - b).toNat

/-- Time a is later than time b. -/
def later (a b : PartTime) : Bool :=
  1 ≤ duration a b && duration a b ≤ 2 ^ 47 - 1

/-- The part time a number of microseconds after t, modulo 2^48. -/
def after (t : PartTime) (micros : Nat) : PartTime :=
  t + BitVec.ofNat 48 micros

/-- A timer that is armed and whose expiry time part time has reached. -/
def due (t : Timer) (now : PartTime) : Bool :=
  match t with
  | none => false
  | some e => !later e now

/-- A trigger that is armed and whose next-fire time part time has reached (R2). -/
def Trigger.due (t : Trigger) (now : PartTime) : Bool :=
  t.armed && !later t.next now

/-! ## Counters, rounding and clamping (00_scope 3.2, 3.3) -/

/-- A 32-bit counter that keeps its largest value. -/
def satInc (n : Nat) : Nat :=
  if n < 4294967295 then n + 1 else n

/-- A 32-bit counter incremented a number of times. -/
def satAdd (n k : Nat) : Nat :=
  if n < 4294967295 then min 4294967295 (n + k) else n

/-- A value clamped into lo to hi. -/
def clampNat (lo hi v : Nat) : Nat :=
  if v < lo then lo else if hi < v then hi else v

/-- A signed value clamped into lo to hi. -/
def clampInt (lo hi v : Int) : Int :=
  if v < lo then lo else if hi < v then hi else v

/-- The even value at or below a value (00_scope 3.4). -/
def evenDown (n : Nat) : Nat :=
  n - n % 2

/-- The counters of a side changed. -/
def State.count (s : State) (x : Side) (f : Counters → Counters) : State :=
  s.onSide x fun d => { d with counters := f d.counters }

/-! ## Byte order (R200): little-endian, two's complement -/

/-- The n bytes of an unsigned field, least significant first. -/
def le : Nat → Nat → List Byte
  | 0, _ => []
  | n + 1, v => BitVec.ofNat 8 v :: le n (v / 256)

/-- The n bytes of a signed field. -/
def leInt (n : Nat) (v : Int) : List Byte :=
  le n (v % (256 ^ n : Nat)).toNat

/-- The unsigned number that bytes hold, least significant first. -/
def unLe : List Byte → Nat
  | [] => 0
  | b :: bs => b.toNat + 256 * unLe bs

/-- The bytes of a field: n bytes from an offset, 0 where there is none. -/
def field (bytes : List Byte) (offset n : Nat) : List Byte :=
  (List.range n).map fun i => bytes.getD (offset + i) 0

/-- An unsigned field of n bytes at an offset. -/
def uField (bytes : List Byte) (offset n : Nat) : Nat :=
  unLe (field bytes offset n)

/-- A signed field of two bytes at an offset. -/
def sField (bytes : List Byte) (offset : Nat) : Int :=
  (BitVec.ofNat 16 (uField bytes offset 2)).toInt

/-! ## CRC-16 (R201) and the CRC-32 of the image signature (R14) -/

/-- One bit of the CRC-16: most significant bit first, polynomial 0x1021. -/
def crc16Bit (c : Word16) : Word16 :=
  if c.msb then (c <<< 1) ^^^ 0x1021 else c <<< 1

/-- One byte of the CRC-16. -/
def crc16Byte (c : Word16) (b : Byte) : Word16 :=
  let c := c ^^^ (b.setWidth 16 <<< 8)
  crc16Bit (crc16Bit (crc16Bit (crc16Bit (crc16Bit (crc16Bit (crc16Bit (crc16Bit c)))))))

/-- The CRC-16 of the control link, the tag line and the store. -/
def crc16 (bytes : List Byte) : Word16 :=
  bytes.foldl crc16Byte 0xFFFF

/-- One bit of the CRC-32: least significant bit first, the reversed polynomial 0xEDB88320. -/
def crc32Bit (c : Word32) : Word32 :=
  if c.getLsbD 0 then (c >>> 1) ^^^ 0xEDB88320 else c >>> 1

/-- One byte of the CRC-32. -/
def crc32Byte (c : Word32) (b : Byte) : Word32 :=
  let c := c ^^^ b.setWidth 32
  crc32Bit (crc32Bit (crc32Bit (crc32Bit (crc32Bit (crc32Bit (crc32Bit (crc32Bit c)))))))

/-- A sampled 12-bit code entering the signature register: low eight bits, then the upper four (R14). -/
def signCode (c : Word32) (code : Nat) : Word32 :=
  crc32Byte (crc32Byte c (BitVec.ofNat 8 code)) (BitVec.ofNat 8 (code / 256 % 16))

/-! ## The cells of the store (R185) -/

/-- Bytes in the store: 64 blocks of 128. -/
def storeSize : Nat := 8192

/-- The address of a byte of a block. -/
def cellAddress (block offset : Nat) : Nat :=
  128 * block + offset

/-- What a cell holds: 0xFF, the erased value, where none is listed. -/
def readCell (cells : List Host.Cell) (a : Nat) : Byte :=
  match cells with
  | [] => 0xFF
  | (k, v) :: rest => if k = a then v else readCell rest a

/-- The cells without any entry for an address, where the list has rising addresses. -/
def dropCell (cells : List Host.Cell) (a : Nat) : List Host.Cell :=
  match cells with
  | [] => []
  | (k, v) :: rest => if k = a then rest else (k, v) :: dropCell rest a

/-- The cells with an entry put in its place. -/
def putCell (cells : List Host.Cell) (a : Nat) (b : Byte) : List Host.Cell :=
  match cells with
  | [] => [(a, b)]
  | (k, v) :: rest =>
    if a < k then (a, b) :: (k, v) :: rest
    else if a = k then (a, b) :: rest
    else (k, v) :: putCell rest a b

/-- A cell given a value; the erased value removes the entry, so equal stores are equal lists. -/
def setCell (cells : List Host.Cell) (a : Nat) (b : Byte) : List Host.Cell :=
  if b = 0xFF then dropCell cells a else putCell cells a b

/-- A write of a byte (R185): the cell takes the AND of its value and the byte. -/
def andCell (cells : List Host.Cell) (a : Nat) (b : Byte) : List Host.Cell :=
  setCell cells a (readCell cells a &&& b)

/-- Bytes read in rising address order. -/
def readCells (cells : List Host.Cell) (a : Nat) : Nat → List Byte
  | 0 => []
  | n + 1 => readCell cells a :: readCells cells (a + 1) n

/-- Whether addresses rise, from a lower limit, with no erased entry and none outside the store. -/
def cellsRising (low : Nat) (cells : List Host.Cell) : Bool :=
  match cells with
  | [] => true
  | (k, v) :: rest => low ≤ k && k < storeSize && v != 0xFF && cellsRising (k + 1) rest

/-- The canonical form of the cells. -/
def cellsWf (cells : List Host.Cell) : Bool :=
  cellsRising 0 cells

end Sys2Proof.Machine
end

