-- ==== Sys2Proof/Machine/Operands.lean ====
section
/-! DEFINITION. What requests carry and replies answer (chapter 12): request kinds with their codes and payload
lengths, result codes, side codes, and the widths and codes of the named fields. -/

namespace Sys2Proof.Machine

/-! ## Request kinds (R203) -/

/-- The kind code of a request. -/
def kindCode : RequestKind → Nat
  | .status => 0x01
  | .identify => 0x02
  | .startView => 0x03
  | .stopView => 0x04
  | .setTiming => 0x05
  | .vehicleState => 0x06
  | .adjustView => 0x07
  | .inspect => 0x08
  | .endInspect => 0x09
  | .setGlare => 0x0A
  | .setTone => 0x0B
  | .setExposureLimits => 0x0C
  | .readGlare => 0x0D
  | .fetchReports => 0x0E
  | .readHealth => 0x0F
  | .readCounters => 0x10
  | .restoreView => 0x11
  | .storeUnlock => 0x12
  | .storeRead => 0x13
  | .storeWrite => 0x14
  | .storeErase => 0x15
  | .storeProtect => 0x16
  | .storeLockFactory => 0x17
  | .loadProfile => 0x18
  | .saveProfile => 0x19
  | .standby => 0x1A
  | .wake => 0x1B
  | .reset => 0x1C

/-- The request a kind byte names; none for a code that R203 does not list. -/
def kindOfCode : Nat → Option RequestKind
  | 0x01 => some .status
  | 0x02 => some .identify
  | 0x03 => some .startView
  | 0x04 => some .stopView
  | 0x05 => some .setTiming
  | 0x06 => some .vehicleState
  | 0x07 => some .adjustView
  | 0x08 => some .inspect
  | 0x09 => some .endInspect
  | 0x0A => some .setGlare
  | 0x0B => some .setTone
  | 0x0C => some .setExposureLimits
  | 0x0D => some .readGlare
  | 0x0E => some .fetchReports
  | 0x0F => some .readHealth
  | 0x10 => some .readCounters
  | 0x11 => some .restoreView
  | 0x12 => some .storeUnlock
  | 0x13 => some .storeRead
  | 0x14 => some .storeWrite
  | 0x15 => some .storeErase
  | 0x16 => some .storeProtect
  | 0x17 => some .storeLockFactory
  | 0x18 => some .loadProfile
  | 0x19 => some .saveProfile
  | 0x1A => some .standby
  | 0x1B => some .wake
  | 0x1C => some .reset
  | _ => none

/-- The fixed payload length a kind calls for; for STORE_WRITE, of its fixed part. -/
def fixedLength : RequestKind → Nat
  | .status => 0
  | .identify => 0
  | .startView => 1
  | .stopView => 1
  | .setTiming => 8
  | .vehicleState => 6
  | .adjustView => 6
  | .inspect => 3
  | .endInspect => 1
  | .setGlare => 18
  | .setTone => 133
  | .setExposureLimits => 13
  | .readGlare => 1
  | .fetchReports => 1
  | .readHealth => 0
  | .readCounters => 2
  | .restoreView => 2
  | .storeUnlock => 0
  | .storeRead => 3
  | .storeWrite => 3
  | .storeErase => 1
  | .storeProtect => 1
  | .storeLockFactory => 0
  | .loadProfile => 1
  | .saveProfile => 1
  | .standby => 0
  | .wake => 0
  | .reset => 0

/-- R174 step 2: whether the payload has the length its kind calls for. -/
def lengthRight (k : RequestKind) (payload : List Byte) : Bool :=
  match k with
  | .storeWrite => 3 ≤ payload.length && payload.length == 3 + uField payload 2 1
  | _ => payload.length == fixedLength k

/-! ## Codes of replies (R202 to R204) -/

/-- The result codes of R202. -/
def resultCode : ResultCode → Nat
  | .ok => 0x00
  | .clamped => 0x01
  | .started => 0x02
  | .refusedState => 0x10
  | .storeBusy => 0x11
  | .isProtected => 0x12
  | .notUnlocked => 0x13
  | .vehicleMoving => 0x14
  | .damaged => 0x15
  | .badFrame => 0x20
  | .unknownKind => 0x21
  | .badLength => 0x22
  | .badValue => 0x23

/-- CLAMPED if a value was changed on the way, OK otherwise (R176). -/
def okOrClamped (changed : Bool) : ResultCode :=
  if changed then .clamped else .ok

/-- View state codes (R203). -/
def viewCode : ViewState → Nat
  | .off => 0
  | .starting => 1
  | .normal => 2
  | .degraded => 3
  | .blanked => 4

/-- Part state codes (R203). -/
def partCodeOf : PartState → Nat
  | .init => 0
  | .active => 1
  | .quiescing => 2
  | .standby => 3

/-- Night state codes (R203). -/
def nightCode : NightState → Nat
  | .day => 0
  | .night => 1

/-- Pending wake codes (R203). -/
def wakeCode : Option Wake → Nat
  | none => 0
  | some .request => 1
  | some .line => 2

/-- Override kinds as bits (R203): INSPECT, MANEUVER, TURN_FOLLOW. -/
def overrideBits (o : Overrides) : Nat :=
  (if o.inspect.isSome then 1 else 0) + (if o.maneuver then 2 else 0) + (if o.turnFollow.isSome then 4 else 0)

/-- A flag byte (R203). -/
def flagByte (b : Bool) : Byte :=
  if b then 1 else 0

/-- A window field: x, y, w, h, two bytes each (R203). -/
def windowBytes (w : Window) : List Byte :=
  le 2 w.x ++ le 2 w.y ++ le 2 w.w ++ le 2 w.h

/-- A supply field; an absent value is all ones (R203). -/
def supplyBytes : Option Nat → List Byte
  | none => [0xFF, 0xFF]
  | some v => le 2 v

/-- A temperature field; an absent value is 0x7FFF (R203). -/
def temperatureBytes : Option Int → List Byte
  | none => [0xFF, 0x7F]
  | some v => leInt 2 v

/-- Sync mode codes (R8, R203). -/
def modeCode : SyncMode → Nat
  | .triggered => 0
  | .follow => 1

/-- The sync mode a code names (R8). -/
def modeOfCode : Nat → Option SyncMode
  | 0 => some .triggered
  | 1 => some .follow
  | _ => none

/-! ## Side codes (00_scope 3.1) -/

/-- The side a code of 0 or 1 names. -/
def oneSide : Nat → Option Side
  | 0 => some .left
  | 1 => some .right
  | _ => none

/-- The sides a code names where 2 means both. -/
def namedSides : Nat → Option (List Side)
  | 0 => some [.left]
  | 1 => some [.right]
  | 2 => some [.left, .right]
  | _ => none

/-! ## Replies -/

/-- What the rule that owns a request gives: the state after it, and its reply, which a deferred RESET does not
have yet (R175). -/
structure Answer where
  state : State
  reply : Option (ResultCode × List Byte)

/-- A reply without a payload. -/
def answer (s : State) (r : ResultCode) : Answer :=
  ⟨s, some (r, [])⟩

/-- A reply with a payload. -/
def answerWith (s : State) (r : ResultCode) (payload : List Byte) : Answer :=
  ⟨s, some (r, payload)⟩

/-- The kind byte of a reply (R202): kind + 0x80. For a received kind of 0x80 or more, which names no request, the
sum does not fit a byte and the manual states no result: a free value (DESIGN CHOICE, log 32). -/
def replyKindByte (kind : Nat) : Byte :=
  if kind < 0x80 then BitVec.ofNat 8 (kind + 0x80) else Config.replyKindOverflow kind

/-- A reply frame (R202): 0xA6; kind + 0x80; tag; length; result; payload; CRC over all between. -/
def replyFrame (kind : Nat) (tag : Byte) (r : ResultCode) (payload : List Byte) : List Byte :=
  let body : List Byte :=
    [replyKindByte kind, tag, BitVec.ofNat 8 payload.length, BitVec.ofNat 8 (resultCode r)] ++ payload
  0xA6 :: body ++ le 2 (crc16 body).toNat

end Sys2Proof.Machine
end

