-- ==== Sys2Proof/Machine/Flags.lean ====
section
/-! DEFINITION. The Fault Supervisor's and the Report Queue's operations (chapters 8 and 9): raising a kind, telling
its condition gone, evaluating the view states, publishing a gain map on a departure from NORMAL, and forming and
storing fault records. Also the status byte of the link (R171). -/

namespace Sys2Proof.Machine

/-! ## Fault kinds and their attributes (R134) -/

/-- The scope of a kind: side, or the part as a whole (`both` and `device`, R135). -/
inductive KindScope where
  | side
  | both
  | device
  deriving DecidableEq, Repr

/-- The reaction classes. -/
inductive ReactionClass where
  | note
  | degrade
  | blank
  deriving DecidableEq, Repr

/-- The kinds in ascending number. -/
def allKinds : List FaultKind :=
  [.linkLost, .frameMalformed, .sensorFrozen, .displayRepeat, .latencyOver, .echoLost, .tagMismatch, .sideCrossed,
   .triggerLate, .cameraControlFail, .startTimeout, .calibrationDamaged, .vehicleSignalStale, .supplyLow,
   .supplyCritical, .tempHigh, .tempCritical, .phaseUnlocked]

/-- The number of a kind. -/
def kindNumber : FaultKind → Nat
  | .linkLost => 1
  | .frameMalformed => 2
  | .sensorFrozen => 3
  | .displayRepeat => 4
  | .latencyOver => 5
  | .echoLost => 6
  | .tagMismatch => 7
  | .sideCrossed => 8
  | .triggerLate => 9
  | .cameraControlFail => 10
  | .startTimeout => 11
  | .calibrationDamaged => 12
  | .vehicleSignalStale => 13
  | .supplyLow => 14
  | .supplyCritical => 15
  | .tempHigh => 16
  | .tempCritical => 17
  | .phaseUnlocked => 18

/-- The scope of a kind. -/
def kindScope : FaultKind → KindScope
  | .calibrationDamaged => .both
  | .vehicleSignalStale => .device
  | .supplyLow => .device
  | .supplyCritical => .device
  | .tempHigh => .device
  | .tempCritical => .device
  | _ => .side

/-- The reaction class of a kind. -/
def kindClass : FaultKind → ReactionClass
  | .linkLost => .blank
  | .frameMalformed => .note
  | .sensorFrozen => .blank
  | .displayRepeat => .degrade
  | .latencyOver => .degrade
  | .echoLost => .degrade
  | .tagMismatch => .degrade
  | .sideCrossed => .blank
  | .triggerLate => .note
  | .cameraControlFail => .degrade
  | .startTimeout => .blank
  | .calibrationDamaged => .blank
  | .vehicleSignalStale => .note
  | .supplyLow => .note
  | .supplyCritical => .blank
  | .tempHigh => .note
  | .tempCritical => .blank
  | .phaseUnlocked => .note

/-- Whether the recovery of a kind is LATCHED. -/
def latched : FaultKind → Bool
  | .sensorFrozen => true
  | .sideCrossed => true
  | .startTimeout => true
  | .calibrationDamaged => true
  | _ => false

/-! ## Active fault sets (R136) -/

/-- How a kind stands in a set. -/
def FaultSet.get (f : FaultSet) : FaultKind → Member
  | .linkLost => f.linkLost
  | .frameMalformed => f.frameMalformed
  | .sensorFrozen => f.sensorFrozen
  | .displayRepeat => f.displayRepeat
  | .latencyOver => f.latencyOver
  | .echoLost => f.echoLost
  | .tagMismatch => f.tagMismatch
  | .sideCrossed => f.sideCrossed
  | .triggerLate => f.triggerLate
  | .cameraControlFail => f.cameraControlFail
  | .startTimeout => f.startTimeout
  | .calibrationDamaged => f.calibrationDamaged
  | .vehicleSignalStale => f.vehicleSignalStale
  | .supplyLow => f.supplyLow
  | .supplyCritical => f.supplyCritical
  | .tempHigh => f.tempHigh
  | .tempCritical => f.tempCritical
  | .phaseUnlocked => f.phaseUnlocked

/-- A set with one kind made to stand as given. -/
def FaultSet.set (f : FaultSet) (k : FaultKind) (m : Member) : FaultSet :=
  match k with
  | .linkLost => { f with linkLost := m }
  | .frameMalformed => { f with frameMalformed := m }
  | .sensorFrozen => { f with sensorFrozen := m }
  | .displayRepeat => { f with displayRepeat := m }
  | .latencyOver => { f with latencyOver := m }
  | .echoLost => { f with echoLost := m }
  | .tagMismatch => { f with tagMismatch := m }
  | .sideCrossed => { f with sideCrossed := m }
  | .triggerLate => { f with triggerLate := m }
  | .cameraControlFail => { f with cameraControlFail := m }
  | .startTimeout => { f with startTimeout := m }
  | .calibrationDamaged => { f with calibrationDamaged := m }
  | .vehicleSignalStale => { f with vehicleSignalStale := m }
  | .supplyLow => { f with supplyLow := m }
  | .supplyCritical => { f with supplyCritical := m }
  | .tempHigh => { f with tempHigh := m }
  | .tempCritical => { f with tempCritical := m }
  | .phaseUnlocked => { f with phaseUnlocked := m }

/-- Whether a kind stands in a set, ACTIVE or HELD. -/
def FaultSet.stands (f : FaultSet) (k : FaultKind) : Bool :=
  f.get k != .absent

/-- The kinds that stand in a set, in ascending number (the order is the model's, log 11). -/
def FaultSet.standing (f : FaultSet) : List FaultKind :=
  allKinds.filter f.stands

/-- Whether a set holds a kind of a reaction class. -/
def FaultSet.holdsClass (f : FaultSet) (c : ReactionClass) : Bool :=
  allKinds.any fun k => kindClass k == c && f.stands k

/-- The evaluated state of a set (R142). -/
def evaluated (f : FaultSet) : ViewState :=
  if f.holdsClass .blank then .blanked else if f.holdsClass .degrade then .degraded else .normal

/-- The active fault set of a side. -/
def State.faults (s : State) (x : Side) : FaultSet :=
  (s.side x).sup.faults

/-- A kind made to stand as given in the set of a side. -/
def State.setFault (s : State) (x : Side) (k : FaultKind) (m : Member) : State :=
  s.onSide x fun d => { d with sup := { d.sup with faults := d.sup.faults.set k m } }

/-! ## Raising and clearing (R137, R138) -/

/-- The record scope of a side (R156). -/
def sideScope : Side → Scope
  | .left => .left
  | .right => .right

/-- The record scope of a kind in the set of a side (R156). -/
def recordScope (k : FaultKind) (x : Side) : Scope :=
  match kindScope k with
  | .side => sideScope x
  | .both => .device
  | .device => .device

/-- A check raises a kind of scope side (R137). -/
def raise (x : Side) (k : FaultKind) (s : State) : State :=
  match (s.faults x).get k with
  | .active => s
  | _ => (s.setFault x k .active).hand ⟨k, .raised, sideScope x, .plain⟩

/-- A check raises a kind of scope both or device: into both sets in the one event (R135, R137). -/
def raisePart (k : FaultKind) (s : State) : State :=
  if (s.faults .left).get k = .active ∧ (s.faults .right).get k = .active then s
  else ((s.setFault .left k .active).setFault .right k .active).hand ⟨k, .raised, .device, .plain⟩

/-- What a kind becomes when its condition goes (R138): an AUTO kind leaves, a LATCHED kind is HELD. -/
def afterGone (k : FaultKind) : Member :=
  if latched k then .held else .absent

/-- The flag class of the CLEARED transition of R138. -/
def goneFlag (k : FaultKind) : FlagClass :=
  if latched k then .held else .plain

/-- A check tells the condition of a kind of scope side gone (R138). -/
def gone (x : Side) (k : FaultKind) (s : State) : State :=
  match (s.faults x).get k with
  | .active => (s.setFault x k (afterGone k)).hand ⟨k, .cleared, sideScope x, goneFlag k⟩
  | _ => s

/-- A check tells the condition of a kind of scope device gone: it leaves both sets in the one event (R135, R138). -/
def gonePart (k : FaultKind) (s : State) : State :=
  if (s.faults .left).get k = .active ∨ (s.faults .right).get k = .active then
    ((s.setFault .left k .absent).setFault .right k .absent).hand ⟨k, .cleared, .device, .plain⟩
  else s

/-! ## View states and gain maps (R78, R140, R142, R145) -/

/-- A map published: the version advances by one (R74). -/
def publish (gains : List Nat) (g : GainMap) : GainMap :=
  { gains := gains, version := g.version + 1 }

/-- A map of 4,096 in every tile published on a side (R78). -/
def publishUnity (x : Side) (s : State) : State :=
  s.onSide x fun d => { d with gain := publish unityGains d.gain }

/-- The view state of a side changed; a departure from NORMAL publishes an all-4,096 map in the same event (R78). -/
def setView (x : Side) (v : ViewState) (s : State) : State :=
  let t := s.onSide x fun d => { d with sup := { d.sup with view := v } }
  if (s.side x).sup.view = .normal ∧ v ≠ .normal then publishUnity x t else t

/-- The view state that follows a change of a side's set (R142, R145, R150). -/
def nextView (sup : Supervision) : ViewState :=
  match sup.view with
  | .off => .off
  | .starting => if sup.faults.holdsClass .blank then .blanked else .starting
  | _ => evaluated sup.faults

/-- Whether the event changed the set of a side: a transition of that side or of the part. -/
def touched (x : Side) (ts : List Transition) : Bool :=
  ts.any fun t => t.scope == sideScope x || t.scope == .device

/-- R140 step 2 for one side. -/
def evaluateView (x : Side) (s : State) : State :=
  if touched x s.handed then setView x (nextView (s.side x).sup) s else s

/-! ## Fault records (R156 to R159) -/

/-- The three parts of R157: kinds cleared that stood when the event began, kinds raised, and kinds cleared that the
same event had raised. The two sorts of CLEARED form groups of their own (DEDUCED, unsafe: log 33). -/
def recordPart (ts : List Transition) (t : Transition) : Nat :=
  match t.direction with
  | .raised => 1
  | .cleared =>
    if ts.any fun u => u.direction == .raised && u.kind == t.kind && u.scope == t.scope then 2 else 0

/-- The kinds of one group, in ascending number. -/
def groupKinds (ts : List Transition) (part : Nat) (scope : Scope) (flag : FlagClass) : List FaultKind :=
  allKinds.filter fun k =>
    ts.any fun t => t.kind == k && t.scope == scope && t.flag == flag && recordPart ts t == part

/-- Kinds four at a time; every piece but the last carries the more flag. The fuel is the number of kinds. -/
def byFours : Nat → List FaultKind → List (List FaultKind × Bool)
  | 0, _ => []
  | n + 1, ks =>
    if ks.isEmpty then []
    else if ks.length ≤ 4 then [(ks, false)]
    else (ks.take 4, true) :: byFours n (ks.drop 4)

/-- A record before it is numbered. -/
structure Draft where
  direction : Direction
  scope : Scope
  flag : FlagClass
  kinds : List FaultKind
  more : Bool
  deriving DecidableEq, Repr

/-- The direction of the records of a part. -/
def partDirection (part : Nat) : Direction :=
  if part = 1 then .raised else .cleared

/-- The records that the transitions of one event form, in the order of R157. -/
def formRecords (ts : List Transition) : List Draft :=
  [0, 1, 2].flatMap fun part =>
    [Scope.left, Scope.right, Scope.device].flatMap fun scope =>
      [FlagClass.plain, FlagClass.held, FlagClass.restored].flatMap fun flag =>
        (byFours 18 (groupKinds ts part scope flag)).map fun piece =>
          ⟨partDirection part, scope, flag, piece.1, piece.2⟩

/-- One record stored, or lost where 32 are stored already (R159). -/
def storeRecord (time : PartTime) (viewLeft viewRight : ViewState) (q : Reports) (d : Draft) : Reports :=
  if q.records.length < 32 then
    { records := q.records ++
        [{ sequence := q.next, time := time, scope := d.scope, direction := d.direction, kinds := d.kinds,
           flag := d.flag, more := d.more, viewLeft := viewLeft, viewRight := viewRight, missed := q.missed }],
      next := q.next + 1,
      missed := 0 }
  else { q with missed := if q.missed < 7 then q.missed + 1 else q.missed }

/-- R140 step 4: the event's transitions, with the view states as they then stand, go to the Report Queue. -/
def reportTransitions (s : State) : State :=
  { s with reports :=
      (formRecords s.handed).foldl (storeRecord s.now s.left.sup.view s.right.sup.view) s.reports }

/-- R140 steps 2 to 4, once for an event after all its raises and clearings. -/
def settle (s : State) : State :=
  reportTransitions (evaluateView .right (evaluateView .left s))

/-- The attention line (R161). -/
def attention (s : State) : Bool :=
  !s.reports.records.isEmpty

/-! ## The status byte (R171, R202) -/

/-- The status byte formed from the state. -/
def statusByte (s : State) : Byte :=
  BitVec.ofNat 8
    ((if s.link.part = .init then 1 else 0) +
     (if s.link.part = .quiescing ∨ s.link.part = .standby then 2 else 0) +
     (if s.link.slot.isSome then 4 else 0) +
     (if attention s then 8 else 0) +
     (if s.store.operation.isSome then 16 else 0) +
     (if s.link.lost then 32 else 0))

end Sys2Proof.Machine
end

