-- ==== Sys2Proof/Machine/Link.lean ====
section
/-! DEFINITION. The Control Link Interface (chapter 10): link windows, the checks and the reply of every request,
the end of QUIESCING and the making of a reset. -/

namespace Sys2Proof.Machine

/-! ## The reply slot (R175) -/

/-- A reply placed in the slot; one not collected is replaced, LOST is set and the loss counted. -/
def placeReply (frame : List Byte) (s : State) : State :=
  match s.link.slot with
  | none => { s with link := { s.link with slot := some frame } }
  | some _ =>
    { s with link := { s.link with slot := some frame, lost := true, lostReplies := satInc s.link.lostReplies } }

/-- A refusal, or any reply without a payload, placed in the slot (R174). -/
def refuse (kind : Nat) (tag : Byte) (r : ResultCode) (s : State) : State :=
  placeReply (replyFrame kind tag r []) s

/-- A frame refused with BAD_FRAME and counted (R173). -/
def refuseBadFrame (kind : Nat) (tag : Byte) (s : State) : State :=
  refuse kind tag .badFrame { s with link := { s.link with badFrames := satInc s.link.badFrames } }

/-! ## Link windows (R170 to R172, R184) -/

/-- The window as it opens now (R171, R172). -/
def openedWindow (s : State) : LinkWindow :=
  ⟨statusByte s, s.link.slot, false⟩

/-- The window that closes. A close without an opening closes a window opened at the close (DESIGN CHOICE, log 7). -/
def closingWindow (s : State) : LinkWindow :=
  match s.link.window with
  | some w => w
  | none => openedWindow s

/-- Bytes of which those after the first k are 0x00. -/
def zeroAfter : Nat → List Byte → List Byte
  | _, [] => []
  | 0, _ :: bs => 0 :: zeroAfter 0 bs
  | k + 1, b :: bs => b :: zeroAfter k bs

/-- The n bytes the part shifts out in a window: the status byte, what the window carries, then 0x00. -/
def windowOutput (w : LinkWindow) (n : Nat) (carried : List Byte) : List Byte :=
  (w.status :: carried ++ List.replicate n 0).take n

/-- The bytes a window of n bytes shifts out, the ones after a reset made in it 0x00 (R184). Where the reset fell
among them is free (log 8). -/
def shiftedBytes (s : State) (w : LinkWindow) (n : Nat) (carried : List Byte) : List Byte :=
  if w.spannedReset then zeroAfter (Config.bytesBeforeReset s.freeCount) (windowOutput w n carried)
  else windowOutput w n carried

/-- The close of a window of n bytes: its bytes have gone out and no window is open. -/
def closeWindow (n : Nat) (carried : List Byte) (s : State) : State :=
  { s with
    link := { s.link with window := none },
    freeCount := if (closingWindow s).spannedReset then s.freeCount + 1 else s.freeCount,
    out := s.out ++ [.shifted (shiftedBytes s (closingWindow s) n carried)] }

/-- A collect window of the first byte and `clocked` more closed (R172). -/
def collect (clocked : Nat) (s : State) : State :=
  let w := closingWindow s
  let t := closeWindow (clocked + 1) (w.reply.getD []) s
  if w.spannedReset then t else { t with link := { t.link with slot := none, lost := false } }

/-! ## Requests (R173, R174, R178) -/

/-- Whether the request set in force holds a kind (R178). -/
def inRequestSet (s : State) (k : RequestKind) : Bool :=
  if s.link.resetPending.isSome || s.link.part == .init then k == .status
  else if s.link.part == .active then true
  else k == .status || k == .identify || k == .wake || k == .reset

/-- A frame counted (R173). -/
def countFrame (s : State) : State :=
  { s with link := { s.link with frames := satInc s.link.frames } }

/-- The answer of an owning rule taken, and its reply placed. -/
def placeAnswer (k : RequestKind) (tag : Byte) (a : Answer) : State :=
  match a.reply with
  | none => a.state
  | some (r, payload) => placeReply (replyFrame (kindCode k) tag r payload) a.state

/-- A counted frame of a known kind: the checks of R174, then the owning rule. -/
def takeFrame (k : RequestKind) (tag : Byte) (payload : List Byte) (own : State → Answer) (s : State) : State :=
  if 248 < payload.length then refuseBadFrame (kindCode k) tag s
  else if !lengthRight k payload then refuse (kindCode k) tag .badLength s
  else if !inRequestSet s k then refuse (kindCode k) tag .refusedState s
  else placeAnswer k tag (own s)

/-- The close of a request window whose frame has this kind, tag and payload and a CRC that checks. A window in
which a reset was made is closed as a poll (R184). -/
def serve (k : RequestKind) (tag : Byte) (payload : List Byte) (own : State → Answer) (s : State) : State :=
  let t := closeWindow (payload.length + 6) [] s
  if (closingWindow s).spannedReset then t else takeFrame k tag payload own (countFrame t)

/-! ## Quiet channels, the end of QUIESCING (R24, R181) -/

/-- A channel with nothing in flight and nothing pending (R24). -/
def Channel.quiet (c : Channel) : Bool :=
  c.inFlight.isNone && c.queue.isEmpty

/-- Whether both channels are quiet and no store operation is in flight. -/
def atRest (s : State) : Bool :=
  s.left.channel.quiet && s.right.channel.quiet && s.store.operation.isNone

/-- QUIESCING ends where the part has come to rest: STANDBY, and the wake timer armed if a wake is pending (R181). -/
def endQuiescing (s : State) : State :=
  if s.link.part = .quiescing ∧ atRest s then
    { s with link := { s.link with
        part := .standby,
        wakeTimer := if s.link.pendingWake.isSome then some (after s.now 2000) else s.link.wakeTimer } }
  else s

/-! ## Making a reset (R184) -/

/-- Steps 1 to 3 of R184: all volatile state at its power-on value, the store's contents and the factory lock kept.
Kept too are what is not the part's volatile state: the queue of waiting commands, the level of the wake line, the
power, the use of free values and what the present event has sent out. -/
def volatileReset (s : State) : State :=
  { State.reset with
    link := { State.reset.link with
      window := s.link.window.map fun w => { w with spannedReset := true },
      wakeLine := s.link.wakeLine },
    store := { State.reset.store with cells := s.store.cells, factoryLock := s.store.factoryLock },
    powered := s.powered,
    out := s.out,
    freeCount := s.freeCount,
    pending := s.pending }

/-- A reset made for the RESET request of a tag: step 4 of R184 places its reply. -/
def makeReset (tag : Byte) (s : State) : State :=
  placeReply (replyFrame (kindCode .reset) tag .ok []) (volatileReset s)

/-- The reset that waited, made once no store operation is in flight (R184). -/
def deferredReset (s : State) : State :=
  match s.link.resetPending with
  | none => s
  | some tag => if s.store.operation.isSome then s else makeReset tag s

/-! ## The commands of the link -/

/-- CHIP_SELECT_FALLING (R170, R171). -/
def execChipSelectFalling (s : State) : Host.Outcome State Fault Refusal :=
  event s fun s => { s with link := { s.link with window := some (openedWindow s) } }

/-- COLLECT_WINDOW (R172). -/
def execCollectWindow (clocked : Nat) (s : State) : Host.Outcome State Fault Refusal :=
  event s (collect clocked)

/-- POLL_WINDOW (R170): the bytes go out and nothing of the part changes. -/
def execPollWindow (bytes : List Byte) (s : State) : Host.Outcome State Fault Refusal :=
  event s (closeWindow bytes.length [])

/-- DEFERRED_RESET (R184). -/
def execDeferredReset (s : State) : Host.Outcome State Fault Refusal :=
  event s deferredReset

/-- ENTER_STANDBY (R181). -/
def execEnterStandby (s : State) : Host.Outcome State Fault Refusal :=
  event s endQuiescing

end Sys2Proof.Machine
end

