-- ==== Sys2Proof/Machine/Health.lean ====
section
/-! DEFINITION. Reports, health and counters as the host reads them (chapter 9): SAMPLE and READ_HEALTH,
FETCH_REPORTS, READ_COUNTERS. -/

namespace Sys2Proof.Machine

/-! ## The Health Monitor (R163, R164) -/

/-- A level after a sample (R164): entered by one test, left by the other, else unchanged. -/
def levelAfter (entered enter leave : Bool) : Bool :=
  if entered then !leave else enter

/-- The four levels after a sample (R164). -/
def levelsAfter (t : Thresholds) (supply : Nat) (temperature : Int) (l : Levels) : Levels :=
  { supplyLow := levelAfter l.supplyLow (supply < t.supplyLow) (t.supplyLow + 50 ≤ supply),
    supplyCrit := levelAfter l.supplyCrit (supply < t.supplyCrit) (t.supplyCrit + 50 ≤ supply),
    tempHigh := levelAfter l.tempHigh (t.tempHigh < temperature) (temperature ≤ t.tempHigh - 5),
    tempCrit := levelAfter l.tempCrit (t.tempCrit < temperature) (temperature ≤ t.tempCrit - 5) }

/-- Sticky indicators after a sample: set by each level entered (R164). -/
def stickyAfter (before after sticky : Levels) : Levels :=
  { supplyLow := sticky.supplyLow || (after.supplyLow && !before.supplyLow),
    supplyCrit := sticky.supplyCrit || (after.supplyCrit && !before.supplyCrit),
    tempHigh := sticky.tempHigh || (after.tempHigh && !before.tempHigh),
    tempCrit := sticky.tempCrit || (after.tempCrit && !before.tempCrit) }

/-- Whether part time has reached the monitor's next sample (R163). -/
def sampleDue (s : State) : Bool :=
  due (some s.health.nextSample) s.now

/-- The monitor after a sample (R164); the next one is 1,000 µs later (R163). -/
def sampled (supply : Nat) (temperature : Int) (h : Health) : Health :=
  let levels := levelsAfter h.thresholds supply temperature h.entered
  { h with
    nextSample := after h.nextSample 1000,
    supply := some supply,
    temperature := some temperature,
    minSupply := some (match h.minSupply with | none => supply | some m => min m supply),
    maxTemperature := some (match h.maxTemperature with | none => temperature | some m => max m temperature),
    entered := levels,
    sticky := stickyAfter h.entered levels h.sticky }

/-- The kind of a level raised when it is entered and told gone when it is left (R164). -/
def levelKind (k : FaultKind) (before after : Bool) (s : State) : State :=
  if after && !before then raisePart k s else if before && !after then gonePart k s else s

/-- A sample arrival (R164). The free-value count advances, so that no two samples of the part's own read one free
value (log 10, log 22). -/
def sampleArrived (supply : Nat) (temperature : Int) (s : State) : State :=
  let before := s.health.entered
  let s := { s with health := sampled supply temperature s.health, freeCount := s.freeCount + 1 }
  let now := s.health.entered
  settle (levelKind .tempCritical before.tempCrit now.tempCrit
    (levelKind .tempHigh before.tempHigh now.tempHigh
      (levelKind .supplyCritical before.supplyCrit now.supplyCrit
        (levelKind .supplyLow before.supplyLow now.supplyLow s))))

/-- The sample that the monitor takes of its own (R163): readings in the ranges of R163, free within them (log 22). -/
def ownSample (s : State) : Instr :=
  .sample (Config.supplyReading s.freeCount).val ((Config.temperatureReading s.freeCount).val - 50)

/-! ## READ_HEALTH (R166) -/

/-- Four flags as bytes in the order of R164. -/
def levelBytes (l : Levels) : List Byte :=
  [flagByte l.supplyLow, flagByte l.supplyCrit, flagByte l.tempHigh, flagByte l.tempCrit]

/-- The thresholds as a reply carries them. -/
def thresholdBytes (t : Thresholds) : List Byte :=
  le 2 t.supplyLow ++ le 2 t.supplyCrit ++ leInt 2 t.tempHigh ++ leInt 2 t.tempCrit

/-- The reply payload of READ_HEALTH. -/
def healthBytes (h : Health) : List Byte :=
  supplyBytes h.supply ++ temperatureBytes h.temperature ++ supplyBytes h.minSupply ++
    temperatureBytes h.maxTemperature ++ levelBytes h.sticky ++ levelBytes h.entered ++ thresholdBytes h.thresholds

/-- The monitor after READ_HEALTH: extremes at the present readings, indicators of levels left cleared. -/
def healthRead (h : Health) : Health :=
  { h with
    minSupply := h.supply,
    maxTemperature := h.temperature,
    sticky :=
      { supplyLow := h.sticky.supplyLow && h.entered.supplyLow,
        supplyCrit := h.sticky.supplyCrit && h.entered.supplyCrit,
        tempHigh := h.sticky.tempHigh && h.entered.tempHigh,
        tempCrit := h.sticky.tempCrit && h.entered.tempCrit } }

/-- The owning rule of READ_HEALTH (R166). -/
def ownReadHealth (s : State) : Answer :=
  answerWith { s with health := healthRead s.health } .ok (healthBytes s.health)

/-! ## FETCH_REPORTS (R160, R204) -/

/-- Scope codes (R204). -/
def scopeCode : Scope → Nat
  | .left => 0
  | .right => 1
  | .device => 2

/-- Direction codes (R204). -/
def directionCode : Direction → Nat
  | .raised => 0
  | .cleared => 1

/-- The flags byte of a record (R204): held, restored, more. -/
def recordFlags (r : Record) : Nat :=
  (if r.flag = .held then 1 else 0) + (if r.flag = .restored then 2 else 0) + (if r.more then 4 else 0)

/-- A fault record as FETCH_REPORTS returns it, 18 bytes (R204). -/
def recordBytes (r : Record) : List Byte :=
  le 2 r.sequence.toNat ++ le 6 r.time.toNat ++ le 1 (scopeCode r.scope) ++ le 1 (directionCode r.direction) ++
    (List.range 4).map (fun i => BitVec.ofNat 8 ((r.kinds.map kindNumber).getD i 0)) ++
    le 1 (recordFlags r) ++ le 1 (viewCode r.viewLeft) ++ le 1 (viewCode r.viewRight) ++ le 1 r.missed

/-- The queue after the oldest n records are removed (R160). -/
def fetched (n : Nat) (q : Reports) : Reports :=
  { q with records := q.records.drop n }

/-- The reply payload of FETCH_REPORTS. -/
def fetchBytes (n : Nat) (q : Reports) : List Byte :=
  let records := q.records.take n
  le 1 records.length ++ records.flatMap recordBytes ++ le 1 (fetched n q).records.length ++ le 1 q.missed

/-- The owning rule of FETCH_REPORTS (R160). -/
def ownFetchReports (p : List Byte) (s : State) : Answer :=
  let n := min 8 (uField p 0 1)
  answerWith { s with reports := fetched n s.reports } (okOrClamped (8 < uField p 0 1)) (fetchBytes n s.reports)

/-! ## READ_COUNTERS (R169) -/

/-- The twelve counters in the order of R168. -/
def counterBytes (c : Counters) : List Byte :=
  le 4 c.framesCaptured ++ le 4 c.malformed ++ le 4 c.dropped ++ le 4 c.repeated ++ le 4 c.echoes ++
    le 4 c.echoesUnknown ++ le 4 c.neverEchoed ++ le 4 c.tagMismatches ++ le 4 c.triggersLate ++
    le 4 c.cameraRetries ++ le 4 c.regionsOverflowed ++ le 4 c.grantsDenied

/-- The counters of a side set to 0. -/
def clearCounters (s : State) (x : Side) : State :=
  s.onSide x fun d => { d with counters := zeroCounters }

/-- The owning rule of READ_COUNTERS (R169). -/
def ownReadCounters (p : List Byte) (s : State) : Answer :=
  match namedSides (uField p 0 1), decide (uField p 1 1 ≤ 1) with
  | some sides, true =>
    answerWith (if uField p 1 1 = 1 then sides.foldl clearCounters s else s) .ok
      (sides.flatMap fun x => counterBytes (s.side x).counters)
  | _, _ => answer s .badValue

/-! ## The commands of reports, health and counters -/

/-- SAMPLE (R163, R164): the sample that is due; a command that comes before its time has no effect (log 22). -/
def execSample (supply : Nat) (temperature : Int) (s : State) : Host.Outcome State Fault Refusal :=
  event s fun s => if sampleDue s then sampleArrived supply temperature s else s

/-- READ_HEALTH (R166). -/
def execReadHealth (tag : Byte) (payload : List Byte) (s : State) : Host.Outcome State Fault Refusal :=
  event s (serve .readHealth tag payload ownReadHealth)

/-- FETCH_REPORTS (R160). -/
def execFetchReports (tag : Byte) (payload : List Byte) (s : State) : Host.Outcome State Fault Refusal :=
  event s (serve .fetchReports tag payload (ownFetchReports payload))

/-- READ_COUNTERS (R169). -/
def execReadCounters (tag : Byte) (payload : List Byte) (s : State) : Host.Outcome State Fault Refusal :=
  event s (serve .readCounters tag payload (ownReadCounters payload))

end Sys2Proof.Machine
end

