-- ==== Sys2Proof/Machine/Statistics.lean ====
section
/-! DEFINITION. Pixels, quads and tiles (sections 1.4, 3.1, 3.2): decompanding, quad luminance, the collecting and
completed tile statistics. -/

namespace Sys2Proof.Machine

/-! ## Pixels (R18, R208) -/

/-- The scene value of a 12-bit companded code (R18). -/
def decompand (c : Nat) : Nat :=
  if c < 1024 then c
  else if c < 2048 then 1024 + (c - 1024) * 8
  else if c < 3072 then 9216 + (c - 2048) * 64
  else 74752 + (c - 3072) * 512

/-- The pixel codes of a line: two bytes each, the code in the low 12 bits (R208). -/
def lineCodes : List Byte → List Nat
  | lo :: hi :: rest => (lo.toNat + 256 * (hi.toNat % 16)) :: lineCodes rest
  | _ => []

/-! ## Quads (R34) -/

/-- The four samples of a quad. -/
structure Quad where
  r : Nat
  g1 : Nat
  g2 : Nat
  b : Nat
  deriving DecidableEq, Repr

/-- The quads of an even line and the odd line below it. -/
def quadsOf : List Nat → List Nat → List Quad
  | r :: g1 :: evens, g2 :: b :: odds => ⟨r, g1, g2, b⟩ :: quadsOf evens odds
  | _, _ => []

/-- The luminance Y of a quad. -/
def Quad.luminance (q : Quad) : Nat :=
  (q.r + q.g1 + q.g2 + q.b) / 4

/-! ## The tile grid (R35) -/

/-- The column of a tile index. -/
def tileColumn (t : Nat) : Nat := t % 16

/-- The row of a tile index. -/
def tileRow (t : Nat) : Nat := t / 16

/-- Whether a tile intersects a window (R35); a window of width 0 or height 0 intersects none. -/
def intersects (t : Nat) (w : Window) : Bool :=
  0 < w.w && 0 < w.h && 120 * tileColumn t < w.x + w.w && w.x < 120 * tileColumn t + 120 &&
    90 * tileRow t < w.y + w.h && w.y < 90 * tileRow t + 90

/-- Whether a tile lies inside a box (R44). -/
def insideBox (t : Nat) (b : Box) : Bool :=
  b.column0 ≤ tileColumn t && tileColumn t ≤ b.column1 && b.row0 ≤ tileRow t && tileRow t ≤ b.row1

/-! ## The Statistics Unit (R37 to R40) -/

/-- A collecting set begun with zeroed records, the glare level latched (R37). -/
def beginCollecting (exposure glareLevel : Nat) : Collecting :=
  ⟨List.replicate 192 ⟨0, 0, 0⟩, exposure, glareLevel, none⟩

/-- A quad's luminance entering the record of its tile (R38). -/
def addQuad (glareLevel : Nat) (t : TileRecord) (y : Nat) : TileRecord :=
  ⟨t.sum + y, max t.peak y, if glareLevel ≤ y then t.hot + 1 else t.hot⟩

/-- The 60 luminances of a quad row that lie in a tile column. -/
def columnPart (ys : List Nat) (column : Nat) : List Nat :=
  (ys.drop (60 * column)).take 60

/-- The luminances of quad row qy entering the records of the tiles that hold them (R38). -/
def addQuadRow (glareLevel qy : Nat) (ys : List Nat) (tiles : List TileRecord) : List TileRecord :=
  tiles.mapIdx fun i t =>
    if tileRow i = qy / 45 then (columnPart ys (tileColumn i)).foldl (addQuad glareLevel) t else t

/-- A line of scene values that the port uses, in the row given (R38): an even row is held, an odd row completes the
quad row if the even line was held. -/
def useLine (row : Nat) (line : List Nat) (c : Collecting) : Collecting :=
  if row % 2 = 0 then { c with evenLine := some line }
  else
    match c.evenLine with
    | none => c
    | some evens =>
      { c with
        tiles := addQuadRow c.glareLevel (row / 2) ((quadsOf evens line).map Quad.luminance) c.tiles,
        evenLine := none }

/-- A line that the port does not use leaves its quad row out (R38). -/
def skipLine (c : Collecting) : Collecting :=
  { c with evenLine := none }

/-- The completed set of a collecting set, with the tile means (R39). -/
def completeSet (c : Collecting) : Completed :=
  ⟨c.tiles.map fun t => ⟨t.sum, t.peak, t.hot, t.sum / 2700⟩, c.exposure, c.glareLevel⟩

/-- Statistics completion on a side (R39): the completed set replaces the previous one and is signalled to the
Exposure Controller and to the Glare Tracker. -/
def completeStatistics (d : SideState) : SideState :=
  match d.stats.collecting with
  | none => d
  | some c =>
    { d with
      stats := ⟨none, some (completeSet c)⟩,
      exposure := { d.exposure with waiting := d.exposure.waiting ++ [completeSet c] },
      glare := { d.glare with waiting := d.glare.waiting ++ [completeSet c] } }

end Sys2Proof.Machine
end

