-- ==== Sys2Proof/Machine/Tone.lean ====
section
/-! DEFINITION. Gain map and tone arithmetic (chapter 5): targets and ramping, the per-pixel gain, the development of
a quad row, and the tone settings. -/

namespace Sys2Proof.Machine

/-! ## Targets and ramping (R75, R76) -/

/-- The target gain of a tile from its glare peak (R75). -/
def targetGain (g : GlareSettings) (peak : Option Nat) : Nat :=
  match peak with
  | none => 4096
  | some p => min 4096 (max g.floor (4096 * g.ceiling / p))

/-- A tile gain moved toward its target (R76). -/
def rampGain (g : GlareSettings) (gain target : Nat) : Nat :=
  if target < gain then max target (gain - g.rampDown) else min target (gain + g.rampUp)

/-- The ramped gains of a publication that carries targets (R76, R77). -/
def rampGains (g : GlareSettings) (peaks : List (Option Nat)) (gains : List Nat) : List Nat :=
  List.zipWith (fun gain peak => rampGain g gain (targetGain g peak)) gains peaks

/-- The publication that a handing of glare peaks makes (R77). -/
def publishHanding (peaks : List (Option Nat)) (d : SideState) : SideState :=
  { d with gain :=
      if d.sup.view = .normal ∧ d.exposure.night = .night then
        publish (rampGains d.glare.settings peaks d.gain.gains) d.gain
      else publish unityGains d.gain }

/-! ## The latch (R82) -/

/-- The published map, the key and the table become the latched set. -/
def latch (d : SideState) : SideState :=
  { d with tone := { d.tone with latched := some ⟨d.gain, d.tone.key, d.tone.table⟩ } }

/-! ## Per-pixel gain (R84, R85) -/

/-- The two tile columns and the horizontal weight of a pixel column (R84). -/
def gainColumns (x : Nat) : Nat × Nat × Nat :=
  if x < 60 then (0, 0, 0)
  else if x < 1860 then ((x - 60) / 120, (x - 60) / 120 + 1, (x - 60) % 120)
  else (15, 15, 0)

/-- The two tile rows and the vertical weight of a pixel row (R84). -/
def gainRows (y : Nat) : Nat × Nat × Nat :=
  if y < 45 then (0, 0, 0)
  else if y < 1035 then ((y - 45) / 90, (y - 45) / 90 + 1, (y - 45) % 90)
  else (11, 11, 0)

/-- The gain of tile (c, r). -/
def tileGain (gains : List Nat) (c r : Nat) : Nat :=
  gains.getD (16 * r + c) 0

/-- The interpolated gain of pixel (x, y) (R85): a sum of weights 10,800, divided with rounding half up. -/
def pixelGain (gains : List Nat) (x y : Nat) : Nat :=
  let (c0, c1, wx) := gainColumns x
  let (r0, r1, wy) := gainRows y
  (tileGain gains c0 r0 * (120 - wx) * (90 - wy) + tileGain gains c1 r0 * wx * (90 - wy) +
    tileGain gains c0 r1 * (120 - wx) * wy + tileGain gains c1 r1 * wx * wy + 5400) / 10800

/-! ## Key, tone table and colour (R86 to R88) -/

/-- The keyed luminance of a quad luminance under a gain and a key (R86). -/
def keyedLuminance (key gain luminance : Nat) : Nat :=
  min 524287 (luminance * gain / 4096 * key / 256)

/-- The display code of a keyed luminance (R87). -/
def displayCode (table : List Nat) (keyed : Nat) : Nat :=
  let i := keyed / 8192
  let low := table.getD i 0
  low + (table.getD (i + 1) 0 - low) * (keyed % 8192) / 8192

/-- The developed code of a sample of a quad (R88). -/
def developedCode (sample luminance display : Nat) : Nat :=
  min 1023 (sample * display / max 1 luminance)

/-- The developed code of the sample at pixel (x, y) of a quad of the given luminance. -/
def developPixel (l : Latched) (x y sample luminance : Nat) : Nat :=
  developedCode sample luminance
    (displayCode l.table (keyedLuminance l.key (pixelGain l.map.gains x y) luminance))

/-- The upper developed row of a quad row: R and G1. -/
def developUpper (l : Latched) (qy : Nat) (qs : List Quad) : List Nat :=
  (qs.zipIdx).flatMap fun (q, qx) =>
    [developPixel l (2 * qx) (2 * qy) q.r q.luminance, developPixel l (2 * qx + 1) (2 * qy) q.g1 q.luminance]

/-- The lower developed row of a quad row: G2 and B. -/
def developLower (l : Latched) (qy : Nat) (qs : List Quad) : List Nat :=
  (qs.zipIdx).flatMap fun (q, qx) =>
    [developPixel l (2 * qx) (2 * qy + 1) q.g2 q.luminance, developPixel l (2 * qx + 1) (2 * qy + 1) q.b q.luminance]

/-- The two developed rows of quad row qy (R86 to R88). -/
def developRows (l : Latched) (qy : Nat) (qs : List Quad) : List (Nat × List Nat) :=
  [(2 * qy, developUpper l qy qs), (2 * qy + 1, developLower l qy qs)]

/-- Rows written into the slot that is WRITING (R88). -/
def writeRows (rows : List (Nat × List Nat)) (slot : Slot) : Slot :=
  if slot.state = .writing then { slot with rows := slot.rows ++ rows } else slot

/-- The development of a used line (R86): when an odd line completes a quad row, its four developed pixels for each
quad go into the WRITING slot. The even line is the one that the Statistics Unit holds (log 15). -/
def developLine (row : Nat) (line : List Nat) (d : SideState) : SideState :=
  match d.tone.latched, d.stats.collecting with
  | some l, some c =>
    match c.evenLine with
    | some evens =>
      if row % 2 = 1 then
        let rows := developRows l (row / 2) (quadsOf evens line)
        { d with ring :=
            ⟨writeRows rows d.ring.slot0, writeRows rows d.ring.slot1, writeRows rows d.ring.slot2⟩ }
      else d
    | none => d
  | _, _ => d

/-! ## Tone settings (R91) -/

/-- Step 3 of R91 from a given entry on: each entry raised to the one before it. -/
def raiseEntries (before : Nat) : List Nat → List Nat
  | [] => []
  | t :: ts => max before t :: raiseEntries (max before t) ts

/-- Steps 2 and 3 of R91. -/
def correctTable (table : List Nat) : List Nat :=
  raiseEntries 0 (table.map (min 1023))

/-- Step 1 of R91. -/
def correctKey (key : Nat) : Nat :=
  clampNat 64 1024 key

/-- Tone settings of a side set. -/
def setTone (key : Nat) (table : List Nat) (s : State) (x : Side) : State :=
  s.onSide x fun d => { d with tone := { d.tone with key := key, table := table } }

/-- The 65 entries of a SET_TONE payload (R203). -/
def toneEntries (p : List Byte) : List Nat :=
  (List.range 65).map fun i => uField p (3 + 2 * i) 2

/-- The owning rule of SET_TONE (R91). -/
def ownSetTone (p : List Byte) (s : State) : Answer :=
  match namedSides (uField p 0 1) with
  | none => answer s .badValue
  | some sides =>
    let key := correctKey (uField p 1 2)
    let table := correctTable (toneEntries p)
    answerWith (sides.foldl (setTone key table) s)
      (okOrClamped (key != uField p 1 2 || table != toneEntries p))
      (le 2 key ++ table.flatMap (le 2))

/-- SET_TONE (R91). -/
def execSetTone (tag : Byte) (payload : List Byte) (s : State) : Host.Outcome State Fault Refusal :=
  event s (serve .setTone tag payload (ownSetTone payload))

end Sys2Proof.Machine
end

