-- ==== Sys2Proof/Machine/Glare.lean ====
section
/-! DEFINITION. The Glare Tracker (chapter 4): hot tiles, regions, association, sightings and misses, new entries,
grants under the dimming cap, and the requests SET_GLARE and READ_GLARE. -/

namespace Sys2Proof.Machine

/-! ## Ordered insertion -/

/-- An element put before the first one that it precedes. -/
def insertBy {α : Type} (before : α → α → Bool) (a : α) : List α → List α
  | [] => [a]
  | b :: rest => if before a b then a :: b :: rest else b :: insertBy before a rest

/-- A list put in order. -/
def sortBy {α : Type} (before : α → α → Bool) (l : List α) : List α :=
  l.foldr (insertBy before) []

/-! ## Hot tiles and regions (R55 to R57) -/

/-- A hot tile (R55). -/
def hotTile (minHot glareLevel : Nat) (t : TileSummary) : Bool :=
  minHot ≤ t.hot && glareLevel ≤ t.peak

/-- The indices of the hot tiles of a completion. -/
def hotTiles (minHot : Nat) (c : Completed) : List Nat :=
  (List.range 192).filter fun t => (c.tiles[t]?).any (hotTile minHot c.glareLevel)

/-- Whether two tiles share an edge (R56). -/
def shareEdge (a b : Nat) : Bool :=
  (tileRow a == tileRow b && (tileColumn a + 1 == tileColumn b || tileColumn b + 1 == tileColumn a)) ||
    (tileColumn a == tileColumn b && (tileRow a + 1 == tileRow b || tileRow b + 1 == tileRow a))

/-- Each tile's label lowered to the least label among itself and the tiles it shares an edge with. -/
def lowerLabels (labels : List (Nat × Nat)) : List (Nat × Nat) :=
  labels.map fun (t, l) => (t, labels.foldl (fun m (u, k) => if shareEdge t u then min m k else m) l)

/-- Labels lowered until they no longer change; a chain of 192 tiles settles within 192 rounds. -/
def settleLabels : Nat → List (Nat × Nat) → List (Nat × Nat)
  | 0, labels => labels
  | n + 1, labels =>
    let lowered := lowerLabels labels
    if lowered = labels then labels else settleLabels n lowered

/-- The smallest box that holds every tile of a list (R56). -/
def boundingBox (tiles : List Nat) : Box :=
  { column0 := tiles.foldl (fun m t => min m (tileColumn t)) 15,
    row0 := tiles.foldl (fun m t => min m (tileRow t)) 11,
    column1 := tiles.foldl (fun m t => max m (tileColumn t)) 0,
    row1 := tiles.foldl (fun m t => max m (tileRow t)) 0 }

/-- The peak of a tile of a completion. -/
def tilePeak (c : Completed) (t : Nat) : Nat :=
  ((c.tiles[t]?).map TileSummary.peak).getD 0

/-- The region of the tiles that carry a label, which is the lowest of their indices (R56). -/
def regionOf (c : Completed) (labels : List (Nat × Nat)) (first : Nat) : Region :=
  let tiles := (labels.filter fun (_, l) => l == first).map Prod.fst
  { box := boundingBox tiles, peak := tiles.foldl (fun m t => max m (tilePeak c t)) 0, tiles := tiles,
    first := first, matched := none }

/-- Region order (R56): descending peak, then ascending first tile. -/
def regionBefore (a b : Region) : Bool :=
  b.peak < a.peak || (a.peak == b.peak && a.first < b.first)

/-- The regions formed from hot tiles, in region order (R56). -/
def formRegions (c : Completed) (hot : List Nat) : List Region :=
  let labels := settleLabels 192 (hot.map fun t => (t, t))
  sortBy regionBefore (((labels.filter fun (t, l) => t == l).map Prod.fst).map (regionOf c labels))

/-! ## Association (R60, R61) -/

/-- An entry's box grown by one tile on each side and limited to the grid (R60). -/
def grownBox (b : Box) : Box :=
  ⟨b.column0 - 1, b.row0 - 1, min 15 (b.column1 + 1), min 11 (b.row1 + 1)⟩

/-- The overlap of an entry's box with a region (R60). -/
def overlap (b : Box) (r : Region) : Nat :=
  (r.tiles.filter fun t => insideBox t (grownBox b)).length

/-- Whether an entry prefers region a to region b (R61). -/
def prefers (box : Box) (a b : Region) : Bool :=
  let oa := overlap box a
  let ob := overlap box b
  ob < oa || (oa == ob && (b.peak < a.peak || (a.peak == b.peak && a.first < b.first)))

/-- The best region offered to an entry: untaken, overlapped, preferred (R61). -/
def bestRegion (box : Box) (regions : List Region) : Option Region :=
  (regions.filter fun r => r.matched.isNone && 1 ≤ overlap box r).foldl
    (fun best r =>
      match best with
      | none => some r
      | some b => if prefers box r b then some r else some b) none

/-- A region marked as matched to an identifier; regions are told apart by their first tiles. -/
def markRegion (first ident : Nat) (regions : List Region) : List Region :=
  regions.map fun r => if r.first = first then { r with matched := some ident } else r

/-- The entries in table order, each with the region it took, and the regions as then marked (R61). -/
def associate : List GlareEntry → List Region → List (GlareEntry × Option Region) × List Region
  | [], regions => ([], regions)
  | e :: es, regions =>
    match bestRegion e.box regions with
    | none =>
      let (rest, marked) := associate es regions
      ((e, none) :: rest, marked)
    | some r =>
      let (rest, marked) := associate es (markRegion r.first e.ident regions)
      ((e, some r) :: rest, marked)

/-! ## Sightings, misses and ages (R62 to R65) -/

/-- A sighted entry (R61 to R64). -/
def sighted (e : GlareEntry) (r : Region) : GlareEntry :=
  let e := { e with box := r.box, peak := r.peak }
  match e.state with
  | .candidate =>
    if e.seen + 1 = 3 then { e with seen := 3, state := .confirmed, missed := 0 } else { e with seen := e.seen + 1 }
  | .confirmed => { e with seen := 3, missed := 0 }
  | .fading => { e with state := .confirmed, missed := 0 }

/-- A missed entry; none if it leaves the table (R62 to R64). -/
def missedEntry (e : GlareEntry) : Option GlareEntry :=
  match e.state with
  | .candidate => none
  | .confirmed => some { e with state := .fading, missed := 1 }
  | .fading => if e.missed + 1 = 6 then none else some { e with missed := e.missed + 1 }

/-- An entry that stays, one completion older and without a grant yet (R65). -/
def aged (e : GlareEntry) : GlareEntry :=
  { e with age := if e.age < 65535 then e.age + 1 else e.age, grant := .none }

/-- The entries after their sightings and misses, in table order (R62 to R65). -/
def applySightings (es : List (GlareEntry × Option Region)) : List GlareEntry :=
  es.filterMap fun (e, region) =>
    match region with
    | some r => some (aged (sighted e r))
    | none => (missedEntry e).map aged

/-! ## New entries (R66, R67) -/

/-- The identifier after one (R67): from 255 to 1. -/
def nextIdent (c : Nat) : Nat :=
  if c < 255 then c + 1 else 1

/-- The identifier counter advanced until it holds a free value (R67); at most 11 values are in use. -/
def freeIdent (used : List Nat) : Nat → Nat → Nat
  | 0, c => nextIdent c
  | n + 1, c => if used.contains (nextIdent c) then freeIdent used n (nextIdent c) else nextIdent c

/-- A new entry for a region (R66). -/
def newEntry (ident : Nat) (r : Region) : GlareEntry :=
  { ident := ident, state := .candidate, seen := 1, missed := 0, box := r.box, peak := r.peak, grant := .none,
    age := 0 }

/-- What offering new entries has come to: the table, the counter, the regions passed, and those not tracked. -/
structure Creation where
  table : List GlareEntry
  counter : Nat
  regions : List Region
  untracked : Nat
  deriving DecidableEq, Repr

/-- One region offered a new entry, if no entry took it (R66). -/
def offerEntry (a : Creation) (r : Region) : Creation :=
  if r.matched.isSome then { a with regions := a.regions ++ [r] }
  else if a.table.length < 12 then
    let ident := freeIdent (a.table.map GlareEntry.ident) 255 a.counter
    { a with table := a.table ++ [newEntry ident r], counter := ident,
             regions := a.regions ++ [{ r with matched := some ident }] }
  else { a with regions := a.regions ++ [r], untracked := a.untracked + 1 }

/-! ## Grants (R68, R69) -/

/-- The window tiles of a window (R68). -/
def windowTiles (w : Window) : List Nat :=
  (List.range 192).filter fun t => intersects t w

/-- The cap of a window (R68). -/
def windowCap (cap : Nat) (w : Window) : Nat :=
  (windowTiles w).length * cap / 100

/-- The tiles of a box. -/
def boxTiles (b : Box) : List Nat :=
  (List.range 192).filter fun t => insideBox t b

/-- What the grant walk has come to: the targeted tiles, the count of each window, the grants so far. -/
structure Walk where
  targeted : List Nat
  mainCount : Nat
  wideCount : Nat
  outcomes : List (Nat × Grant)
  deriving DecidableEq, Repr

/-- One entry of the walk (R69). -/
def grantStep (main wide : Window) (cap : Nat) (a : Walk) (e : GlareEntry) : Walk :=
  let new := (boxTiles e.box).filter fun t => !a.targeted.contains t
  let mainNew := (new.filter fun t => intersects t main).length
  let wideNew := (new.filter fun t => intersects t wide).length
  if windowCap cap main < a.mainCount + mainNew ∨ windowCap cap wide < a.wideCount + wideNew then
    { a with outcomes := a.outcomes ++ [(e.ident, .denied)] }
  else
    { targeted := a.targeted ++ new, mainCount := a.mainCount + mainNew, wideCount := a.wideCount + wideNew,
      outcomes := a.outcomes ++ [(e.ident, .granted)] }

/-- The order of the walk (R69): descending peak, then ascending identifier. -/
def grantBefore (a b : GlareEntry) : Bool :=
  b.peak < a.peak || (a.peak == b.peak && a.ident < b.ident)

/-- The walk over the CONFIRMED entries (R69). -/
def grantWalk (main wide : Window) (cap : Nat) (table : List GlareEntry) : Walk :=
  (sortBy grantBefore (table.filter fun e => e.state == .confirmed)).foldl (grantStep main wide cap) ⟨[], 0, 0, []⟩

/-- The grant flags that a walk gives the entries of the table (R65, R69). -/
def applyGrants (a : Walk) (table : List GlareEntry) : List GlareEntry :=
  table.map fun e => { e with grant := (a.outcomes.lookup e.ident).getD .none }

/-- The glare peaks of R70: for each tile, the greatest peak of the GRANTED entries whose box holds it. -/
def glarePeaks (table : List GlareEntry) : List (Option Nat) :=
  (List.range 192).map fun t =>
    (table.filter fun e => e.grant == .granted && insideBox t e.box).foldl
      (fun best e => some (match best with | none => e.peak | some p => max p e.peak)) none

/-! ## A completion taken (R54) -/

/-- The tracker after a completion in NIGHT, with the regions removed over the limit or not tracked, and the grants
denied (R54 to R69). -/
def track (c : Completed) (main wide : Window) (g : Glare) : Glare × Nat × Nat :=
  let formed := formRegions c (hotTiles g.settings.minHot c)
  let kept := formed.take 12
  let (entries, marked) := associate g.table kept
  let created := marked.foldl offerEntry ⟨applySightings entries, g.counter, [], 0⟩
  let walk := grantWalk main wide g.settings.cap created.table
  ({ g with table := applyGrants walk created.table, counter := created.counter, regions := created.regions,
            formed := formed.length, kept := kept.length },
   formed.length - kept.length + created.untracked,
   (walk.outcomes.filter fun o => o.2 == .denied).length)

/-- The tracker's work on a completion in NIGHT, with the handing and its publication (R54, R70, R77). -/
def trackSide (c : Completed) (d : SideState) : SideState :=
  let (glare, overflowed, denied) := track c d.geometry.mainInForce d.geometry.wideInForce d.glare
  publishHanding (glarePeaks glare.table)
    { d with
      glare := glare,
      counters := { d.counters with
        regionsOverflowed := satAdd d.counters.regionsOverflowed overflowed,
        grantsDenied := satAdd d.counters.grantsDenied denied } }

/-- The Glare Tracker takes its oldest completion, if there is one (R41, R54). -/
def takeGlare (x : Side) (s : State) : State :=
  match (s.side x).glare.waiting with
  | [] => s
  | c :: rest =>
    s.onSide x fun d =>
      let d := { d with glare := { d.glare with waiting := rest } }
      match d.exposure.night with
      | .day => { d with glare := { d.glare with regions := [], formed := 0, kept := 0 } }
      | .night => trackSide c d

/-! ## Glare settings and READ_GLARE (R72, R73) -/

/-- The seven settings clamped into their ranges (R53). -/
def clampGlare (g : GlareSettings) : GlareSettings :=
  { level := clampNat 10000 598528 g.level,
    minHot := clampNat 1 2700 g.minHot,
    cap := clampNat 0 50 g.cap,
    ceiling := clampNat 1000 598528 g.ceiling,
    floor := clampNat 512 4096 g.floor,
    rampDown := clampNat 1 4096 g.rampDown,
    rampUp := clampNat 1 4096 g.rampUp }

/-- Glare settings of a side set. -/
def setGlareSettings (g : GlareSettings) (s : State) (x : Side) : State :=
  s.onSide x fun d => { d with glare := { d.glare with settings := g } }

/-- The settings of a SET_GLARE payload (R203). -/
def glareRequest (p : List Byte) : GlareSettings :=
  ⟨uField p 1 4, uField p 5 2, uField p 7 1, uField p 8 4, uField p 12 2, uField p 14 2, uField p 16 2⟩

/-- The settings as a reply carries them (R73). -/
def glareBytes (g : GlareSettings) : List Byte :=
  le 4 g.level ++ le 2 g.minHot ++ le 1 g.cap ++ le 4 g.ceiling ++ le 2 g.floor ++ le 2 g.rampDown ++ le 2 g.rampUp

/-- The owning rule of SET_GLARE (R73). -/
def ownSetGlare (p : List Byte) (s : State) : Answer :=
  match namedSides (uField p 0 1) with
  | none => answer s .badValue
  | some sides =>
    let g := clampGlare (glareRequest p)
    answerWith (sides.foldl (setGlareSettings g) s) (okOrClamped (g != glareRequest p)) (glareBytes g)

/-- The state code of an entry (R204). -/
def entryStateCode : EntryState → Nat
  | .candidate => 1
  | .confirmed => 2
  | .fading => 3

/-- The grant flag code of an entry (R204). -/
def grantCode : Grant → Nat
  | .none => 0
  | .granted => 1
  | .denied => 2

/-- A glare entry as READ_GLARE returns it, 15 bytes (R204). -/
def entryBytes (e : GlareEntry) : List Byte :=
  le 1 e.ident ++ le 1 (entryStateCode e.state) ++ le 1 e.seen ++ le 1 e.missed ++
    le 1 e.box.column0 ++ le 1 e.box.row0 ++ le 1 e.box.column1 ++ le 1 e.box.row1 ++
    le 4 e.peak ++ le 1 (grantCode e.grant) ++ le 2 e.age

/-- The reply payload of READ_GLARE for a side (R72). -/
def readGlareBytes (d : SideState) : List Byte :=
  le 1 (nightCode d.exposure.night) ++ le 1 d.glare.formed ++ le 1 d.glare.kept ++ le 1 d.glare.table.length ++
    d.glare.table.flatMap entryBytes

/-- The owning rule of READ_GLARE (R72). -/
def ownReadGlare (p : List Byte) (s : State) : Answer :=
  match oneSide (uField p 0 1) with
  | none => answer s .badValue
  | some x => answerWith s .ok (readGlareBytes (s.side x))

/-! ## The commands of the Glare Tracker -/

/-- GLARE_COMPLETION_TAKEN (R54). -/
def execGlareCompletionTaken (x : Side) (s : State) : Host.Outcome State Fault Refusal :=
  event s (takeGlare x)

/-- SET_GLARE (R73). -/
def execSetGlare (tag : Byte) (payload : List Byte) (s : State) : Host.Outcome State Fault Refusal :=
  event s (serve .setGlare tag payload (ownSetGlare payload))

/-- READ_GLARE (R72). -/
def execReadGlare (tag : Byte) (payload : List Byte) (s : State) : Host.Outcome State Fault Refusal :=
  event s (serve .readGlare tag payload (ownReadGlare payload))

end Sys2Proof.Machine
end

