-- ==== Sys2Proof/Machine/Geometry.lean ====
section
/-! DEFINITION. View geometry and the Vehicle Signal Table (chapter 6): clamping a window, resolving the windows in
force, the override list, the slew, the marker rows, and the signals that steer the overrides. -/

namespace Sys2Proof.Machine

/-! ## Windows (R93, R95) -/

/-- A valid window (R93). -/
def validWindow (w : Window) : Bool :=
  w.x % 2 == 0 && w.y % 2 == 0 && w.w % 2 == 0 && w.h % 2 == 0 && 2 ≤ w.w && 2 ≤ w.h &&
    w.x + w.w ≤ 1920 && w.y + w.h ≤ 1080

/-- Whether a window lies inside bounds. -/
def inside (b w : Window) : Bool :=
  b.x ≤ w.x && w.x + w.w ≤ b.x + b.w && b.y ≤ w.y && w.y + w.h ≤ b.y + b.h

/-- R95 step 1 for a width or a height. -/
def clampSize (limit size : Nat) : Nat :=
  max 2 (min size limit)

/-- R95 step 2 in one direction: the least move that brings the window inside. -/
def clampOrigin (low limit : Nat) (origin : Int) (size : Nat) : Int :=
  if origin < low then low
  else if origin + size > low + limit then low + limit - size
  else origin

/-- R95: a window of a (possibly negative) origin clamped into bounds. -/
def clampAt (b : Window) (x y : Int) (w h : Nat) : Window :=
  { x := evenDown (clampOrigin b.x b.w x (clampSize b.w w)).toNat,
    y := evenDown (clampOrigin b.y b.h y (clampSize b.h h)).toNat,
    w := evenDown (clampSize b.w w),
    h := evenDown (clampSize b.h h) }

/-- R95: a window clamped into bounds. -/
def clampWindow (b w : Window) : Window :=
  clampAt b w.x w.y w.w w.h

/-- A window rounded down to even (R94, R96). -/
def evenWindow (w : Window) : Window :=
  ⟨evenDown w.x, evenDown w.y, evenDown w.w, evenDown w.h⟩

/-! ## Windows in force (R107, R108) -/

/-- The pan of an angle (R107): tenths of a degree times the pan gain, divided by 10, at most 480. -/
def panOf (panGain : Nat) (angle : Int) : Nat :=
  min 480 (angle.natAbs * panGain / 10)

/-- The x of MAIN moved outward by a pan (R108). -/
def pannedX (x : Side) (origin pan : Nat) : Int :=
  match x with
  | .left => (origin : Int) - pan
  | .right => (origin : Int) + pan

/-- The MAIN window in force (R108). -/
def resolveMain (x : Side) (g : Geometry) : Window :=
  match g.overrides.turnFollow with
  | some pan => clampAt g.bounds (pannedX x g.baseMain.x pan) g.baseMain.y g.baseMain.w g.baseMain.h
  | none => clampWindow g.bounds g.baseMain

/-- What WIDE is taken from (R108). -/
def wideSource (g : Geometry) : Window :=
  match g.overrides.inspect with
  | some .curb => g.curb
  | some .axle => g.axle
  | none => if g.overrides.maneuver then g.maneuver else g.baseWide

/-- The WIDE window in force (R108). -/
def resolveWide (g : Geometry) : Window :=
  clampWindow g.bounds (wideSource g)

/-- Both windows in force resolved (R108). -/
def resolve (x : Side) (g : Geometry) : Geometry :=
  { g with mainInForce := resolveMain x g, wideInForce := resolveWide g }

/-- The override list changed, and the windows in force resolved if it did change (R102, R105). -/
def setOverrides (x : Side) (o : Overrides) (g : Geometry) : Geometry :=
  if o = g.overrides then g else resolve x { g with overrides := o }

/-- New bounds and marker rows (R94): base and displayed windows clamped into them, then the windows in force
resolved. -/
def setBounds (x : Side) (b : Window) (markers : List (Option Nat)) (g : Geometry) : Geometry :=
  resolve x { g with
    bounds := b, markers := markers,
    baseMain := clampWindow b g.baseMain, baseWide := clampWindow b g.baseWide,
    mainShown := clampWindow b g.mainShown, wideShown := clampWindow b g.wideShown }

/-! ## Slew (R109) -/

/-- One value moved toward its target by at most 24. -/
def slewValue (value target : Nat) : Nat :=
  if value ≤ target then (if target - value ≤ 24 then target else value + 24)
  else (if value - target ≤ 24 then target else value - 24)

/-- A displayed window moved one step toward its window in force. -/
def slewWindow (shown target : Window) : Window :=
  ⟨slewValue shown.x target.x, slewValue shown.y target.y, slewValue shown.w target.w, slewValue shown.h target.h⟩

/-- The slew of both displayed windows of a side. -/
def slew (g : Geometry) : Geometry :=
  { g with mainShown := slewWindow g.mainShown g.mainInForce, wideShown := slewWindow g.wideShown g.wideInForce }

/-! ## Distance markers (R111) -/

/-- The display row of a marker row that falls inside the displayed MAIN window. -/
def markerRow (main : Window) (marker : Option Nat) : Option Nat :=
  match marker with
  | none => none
  | some m => if main.y ≤ m ∧ m < main.y + main.h then some ((m - main.y) * 520 / main.h) else none

/-- The display rows of the markers drawn with a displayed MAIN window. -/
def markerRows (g : Geometry) : List Nat :=
  g.markers.filterMap (markerRow g.mainShown)

/-! ## The overrides that signals steer (R105, R106) -/

/-- The angle toward a side (R106). -/
def angleToward (x : Side) (angle : Int) : Int :=
  match x with
  | .left => -angle
  | .right => angle

/-- MANEUVER after an arrival of reverse (R105). -/
def maneuverArrival (reverse : Bool) (o : Overrides) : Overrides :=
  { o with maneuver := reverse }

/-- TURN_FOLLOW after an arrival of the angle (R106, R107). -/
def turnFollowArrival (x : Side) (panGain : Nat) (angle : Int) (o : Overrides) : Overrides :=
  match o.turnFollow with
  | none => if 80 ≤ angleToward x angle then { o with turnFollow := some (panOf panGain angle) } else o
  | some _ =>
    if angleToward x angle < 50 then { o with turnFollow := none }
    else { o with turnFollow := some (panOf panGain angle) }

/-- The override list a start builds from the signal table (R112). -/
def startOverrides (x : Side) (panGain : Nat) (t : SignalTable) : Overrides :=
  { inspect := none,
    maneuver := t.reverseStatus.fresh && t.reverse,
    turnFollow :=
      if t.angleStatus.fresh ∧ 80 ≤ angleToward x t.angle then some (panOf panGain t.angle) else none }

/-- The unit at a start of its side (R112). -/
def startGeometry (x : Side) (t : SignalTable) (g : Geometry) : Geometry :=
  let g := resolve x { g with overrides := startOverrides x g.panGain t }
  { g with mainShown := g.mainInForce, wideShown := g.wideInForce }

/-- The unit at a stop of its side (R112). -/
def stopGeometry (x : Side) (g : Geometry) : Geometry :=
  resolve x { g with overrides := ⟨none, false, none⟩, inspectTimer := none }

/-- The override list of a side changed while the side is not OFF (R102). -/
def overrideSide (x : Side) (f : Geometry → Overrides) (s : State) : State :=
  if (s.side x).sup.view = .off then s
  else s.onSide x fun d => { d with geometry := setOverrides x (f d.geometry) d.geometry }

/-! ## The Vehicle Signal Table (R98 to R101) -/

/-- The status of a signal that arrives (R99). -/
def arrivedStatus (now : PartTime) : SignalStatus :=
  ⟨true, true, some (after now 300000)⟩

/-- The status of a signal whose freshness timer expired (R100). -/
def staleStatus (st : SignalStatus) : SignalStatus :=
  { st with fresh := false, timer := none }

/-- Whether a signal that has arrived is STALE: the condition of VEHICLE_SIGNAL_STALE (R101). -/
def anySignalStale (t : SignalTable) : Bool :=
  (t.speedStatus.arrived && !t.speedStatus.fresh) || (t.reverseStatus.arrived && !t.reverseStatus.fresh) ||
    (t.angleStatus.arrived && !t.angleStatus.fresh)

/-- What a VEHICLE_STATE request carries (R99, R203). -/
structure SignalRequest where
  hasSpeed : Bool
  hasReverse : Bool
  hasAngle : Bool
  speed : Nat
  reverse : Nat
  angle : Int
  deriving DecidableEq, Repr

/-- The payload of VEHICLE_STATE: flags in bits 0 to 2, speed, reverse, angle (R203). -/
def signalRequest (p : List Byte) : SignalRequest :=
  { hasSpeed := (p.getD 0 0).getLsbD 0, hasReverse := (p.getD 0 0).getLsbD 1, hasAngle := (p.getD 0 0).getLsbD 2,
    speed := uField p 1 2, reverse := uField p 3 1, angle := sField p 4 }

/-- The signal table after the arrivals of a request (R99). -/
def signalArrivals (r : SignalRequest) (now : PartTime) (t : SignalTable) : SignalTable :=
  { speed := if r.hasSpeed then min 2550 r.speed else t.speed,
    speedStatus := if r.hasSpeed then arrivedStatus now else t.speedStatus,
    reverse := if r.hasReverse then r.reverse == 1 else t.reverse,
    reverseStatus := if r.hasReverse then arrivedStatus now else t.reverseStatus,
    angle := if r.hasAngle then clampInt (-900) 900 r.angle else t.angle,
    angleStatus := if r.hasAngle then arrivedStatus now else t.angleStatus }

/-- Whether clamping changed the speed or the angle of a request (R99). -/
def signalsClamped (r : SignalRequest) : Bool :=
  (r.hasSpeed && 2550 < r.speed) || (r.hasAngle && clampInt (-900) 900 r.angle != r.angle)

/-- The overrides of a side re-evaluated after the arrivals of a request (R99, R105, R106). -/
def arrivalOverrides (x : Side) (r : SignalRequest) (t : SignalTable) (g : Geometry) : Overrides :=
  let o := if r.hasReverse then maneuverArrival t.reverse g.overrides else g.overrides
  if r.hasAngle then turnFollowArrival x g.panGain t.angle o else o

/-- VEHICLE_SIGNAL_STALE told gone where an arrival left no arrived signal STALE (R101). -/
def clearSignalStale (r : SignalRequest) (s : State) : State :=
  if (r.hasSpeed || r.hasReverse || r.hasAngle) && !anySignalStale s.signals then gonePart .vehicleSignalStale s
  else s

/-- The owning rule of VEHICLE_STATE (R99). -/
def ownVehicleState (p : List Byte) (s : State) : Answer :=
  let r := signalRequest p
  if r.hasReverse && 1 < r.reverse then answer s .badValue
  else
    let s := { s with signals := signalArrivals r s.now s.signals }
    let s := overrideSide .left (arrivalOverrides .left r s.signals) s
    let s := overrideSide .right (arrivalOverrides .right r s.signals) s
    answer (settle (clearSignalStale r s)) (okOrClamped (signalsClamped r))

/-- The freshness timer of a signal (R98). -/
def freshnessTimer (t : SignalTable) : Signal → Timer
  | .speed => t.speedStatus.timer
  | .reverse => t.reverseStatus.timer
  | .angle => t.angleStatus.timer

/-- A signal made STALE (R100). -/
def makeStale (sig : Signal) (t : SignalTable) : SignalTable :=
  match sig with
  | .speed => { t with speedStatus := staleStatus t.speedStatus }
  | .reverse => { t with reverseStatus := staleStatus t.reverseStatus }
  | .angle => { t with angleStatus := staleStatus t.angleStatus }

/-- The override that a stale signal no longer holds (R100). -/
def staleOverrides (sig : Signal) (o : Overrides) : Overrides :=
  match sig with
  | .speed => o
  | .reverse => { o with maneuver := false }
  | .angle => { o with turnFollow := none }

/-- The expiry of a freshness timer (R100, R101). -/
def freshnessExpired (sig : Signal) (s : State) : State :=
  let s := { s with signals := makeStale sig s.signals }
  let s := overrideSide .left (fun g => staleOverrides sig g.overrides) s
  let s := overrideSide .right (fun g => staleOverrides sig g.overrides) s
  settle (if anySignalStale s.signals then raisePart .vehicleSignalStale s else s)

/-! ## ADJUST_VIEW, INSPECT and END_INSPECT (R97, R103, R104) -/

/-- A base window of the unit: 0 MAIN, 1 WIDE. -/
def baseWindow (wide : Bool) (g : Geometry) : Window :=
  if wide then g.baseWide else g.baseMain

/-- A base window set, and the windows in force resolved (R97). -/
def setBase (x : Side) (wide : Bool) (w : Window) (g : Geometry) : Geometry :=
  resolve x (if wide then { g with baseWide := w } else { g with baseMain := w })

/-- The base window that ADJUST_VIEW makes of a window and two offsets (R97). -/
def adjusted (b w : Window) (dx dy : Int) : Window :=
  clampAt b (w.x + dx) (w.y + dy) w.w w.h

/-- The owning rule of ADJUST_VIEW (R97). -/
def ownAdjustView (p : List Byte) (s : State) : Answer :=
  match oneSide (uField p 0 1), decide (uField p 1 1 ≤ 1) with
  | some x, true =>
    let wide := uField p 1 1 == 1
    let g := (s.side x).geometry
    let w := baseWindow wide g
    let v := adjusted g.bounds w (sField p 2) (sField p 4)
    let acted := (v.x : Int) != w.x + sField p 2 || (v.y : Int) != w.y + sField p 4 || v.w != w.w || v.h != w.h
    answerWith (s.onSide x fun d => { d with geometry := setBase x wide v d.geometry })
      (okOrClamped acted) (windowBytes v)
  | _, _ => answer s .badValue

/-- The preset a selector names (R103). -/
def presetOfCode : Nat → Option Preset
  | 0 => some .curb
  | 1 => some .axle
  | _ => none

/-- INSPECT taken on a side (R103). -/
def inspectSide (x : Side) (preset : Preset) (seconds : Nat) (s : State) : State :=
  s.onSide x fun d =>
    { d with geometry :=
        { setOverrides x { d.geometry.overrides with inspect := some preset } d.geometry with
          inspectTimer := some (after s.now (seconds * 1000000)) } }

/-- The owning rule of INSPECT (R103). -/
def ownInspect (p : List Byte) (s : State) : Answer :=
  match oneSide (uField p 0 1), presetOfCode (uField p 1 1) with
  | some x, some preset =>
    if (s.side x).sup.view = .off then answer s .refusedState
    else
      let seconds := clampNat 1 60 (uField p 2 1)
      answer (inspectSide x preset seconds s) (okOrClamped (seconds != uField p 2 1))
  | _, _ => answer s .badValue

/-- The INSPECT entry of a side removed and its timer disarmed (R104). -/
def endInspectSide (s : State) (x : Side) : State :=
  if (s.side x).geometry.overrides.inspect.isSome then
    s.onSide x fun d =>
      { d with geometry :=
          { setOverrides x { d.geometry.overrides with inspect := none } d.geometry with inspectTimer := none } }
  else s

/-- The owning rule of END_INSPECT (R104). -/
def ownEndInspect (p : List Byte) (s : State) : Answer :=
  match namedSides (uField p 0 1) with
  | none => answer s .badValue
  | some sides => answer (sides.foldl endInspectSide s) .ok

/-- The expiry of the INSPECT duration timer (R104). -/
def inspectExpired (x : Side) (s : State) : State :=
  s.onSide x fun d =>
    { d with geometry :=
        { setOverrides x { d.geometry.overrides with inspect := none } d.geometry with inspectTimer := none } }

/-! ## The commands of the geometry and the signals -/

/-- FRESHNESS_TIMER_EXPIRY (R100). -/
def execFreshnessTimerExpiry (sig : Signal) (s : State) : Host.Outcome State Fault Refusal :=
  event s fun s => if due (freshnessTimer s.signals sig) s.now then freshnessExpired sig s else s

/-- INSPECT_DURATION_EXPIRY (R104). -/
def execInspectDurationExpiry (x : Side) (s : State) : Host.Outcome State Fault Refusal :=
  event s fun s => if due (s.side x).geometry.inspectTimer s.now then inspectExpired x s else s

/-- VEHICLE_STATE (R99). -/
def execVehicleState (tag : Byte) (payload : List Byte) (s : State) : Host.Outcome State Fault Refusal :=
  event s (serve .vehicleState tag payload (ownVehicleState payload))

/-- ADJUST_VIEW (R97). -/
def execAdjustView (tag : Byte) (payload : List Byte) (s : State) : Host.Outcome State Fault Refusal :=
  event s (serve .adjustView tag payload (ownAdjustView payload))

/-- INSPECT (R103). -/
def execInspect (tag : Byte) (payload : List Byte) (s : State) : Host.Outcome State Fault Refusal :=
  event s (serve .inspect tag payload (ownInspect payload))

/-- END_INSPECT (R104). -/
def execEndInspect (tag : Byte) (payload : List Byte) (s : State) : Host.Outcome State Fault Refusal :=
  event s (serve .endInspect tag payload (ownEndInspect payload))

end Sys2Proof.Machine
end

