-- ==== Sys2Proof/Machine/Store.lean ====
section
/-! DEFINITION. The Calibration Store (sections 11.1 to 11.3, 11.5): the checks of modifying requests, the operations
and their phases, reading, protection, the factory lock, and a loss of power. -/

namespace Sys2Proof.Machine

/-! ## Protection (R186) -/

/-- Whether a block is protected. -/
def blockProtected (st : Store) (block : Nat) : Bool :=
  block < st.boundary || (block < 8 && st.factoryLock)

/-- Whether the speed signal refuses a modifying request (R188 step 6). -/
def vehicleMoving (t : SignalTable) : Bool :=
  !t.speedStatus.fresh || 0 < t.speed

/-- Whether a weak supply or a critical kind stands (R167, R188 step 7). -/
def storeForbidden (s : State) : Bool :=
  let stands (k : FaultKind) : Bool := (s.faults .left).stands k || (s.faults .right).stands k
  stands .supplyCritical || stands .tempCritical || stands .supplyLow

/-! ## Modifying requests (R188) -/

/-- The duration of a phase (R190, R191, R193, R196). -/
def phaseDuration : StoreWork → Nat
  | .write _ _ _ => 3000
  | .erase _ => 20000
  | .lock => 3000
  | .save _ _ phase => if phase ≤ 2 then 20000 else 3000

/-- The operation started, its completion timer armed for its first phase (R188 step 8). -/
def startOperation (w : StoreWork) (s : State) : State :=
  { s with store := { s.store with operation := some ⟨w, after s.now (phaseDuration w)⟩ } }

/-- The write latch cleared (R188 step 4). -/
def useLatch (s : State) : State :=
  { s with store := { s.store with latch := false } }

/-- Steps 2 to 8 of R188 for a request whose values are in range: whether a block concerned is protected, and the
work to start. -/
def modify (isProtected : Bool) (w : StoreWork) (s : State) : Answer :=
  if s.store.operation.isSome then answer s .storeBusy
  else if !s.store.latch then answer s .notUnlocked
  else if isProtected then answer (useLatch s) .isProtected
  else if vehicleMoving s.signals then answer (useLatch s) .vehicleMoving
  else if storeForbidden s then answer (useLatch s) .refusedState
  else answer (startOperation w (useLatch s)) .started

/-- The owning rule of STORE_UNLOCK (R187). -/
def ownStoreUnlock (s : State) : Answer :=
  if s.store.operation.isSome then answer s .storeBusy
  else answer { s with store := { s.store with latch := true } } .ok

/-- The owning rule of STORE_WRITE (R190). -/
def ownStoreWrite (p : List Byte) (s : State) : Answer :=
  let block := uField p 0 1
  let offset := uField p 1 1
  let length := uField p 2 1
  if 63 < block ∨ 127 < offset ∨ length = 0 ∨ 128 < length then answer s .badValue
  else modify (blockProtected s.store block) (.write block offset (p.drop 3)) s

/-- The owning rule of STORE_ERASE (R191). -/
def ownStoreErase (p : List Byte) (s : State) : Answer :=
  let block := uField p 0 1
  if 63 < block then answer s .badValue
  else modify (blockProtected s.store block) (.erase block) s

/-- The owning rule of STORE_LOCK_FACTORY (R193): only the lock protects blocks 0 to 7 from it (R188 step 5). -/
def ownStoreLockFactory (s : State) : Answer :=
  modify s.store.factoryLock .lock s

/-! ## Reading and protecting (R189, R192) -/

/-- How many bytes STORE_READ returns: the length, or what is left to the end of block 63. -/
def readCount (block offset length : Nat) : Nat :=
  min (min 128 length) (storeSize - cellAddress block offset)

/-- The owning rule of STORE_READ (R189). R189 gives BAD_VALUE and STORE_BUSY without an order; that BAD_VALUE is
checked first is the model's choice (DESIGN CHOICE, log 34). -/
def ownStoreRead (p : List Byte) (s : State) : Answer :=
  let block := uField p 0 1
  let offset := uField p 1 1
  let length := uField p 2 1
  if 63 < block ∨ 127 < offset then answer s .badValue
  else if s.store.operation.isSome then answer s .storeBusy
  else
    let bytes := readCells s.store.cells (cellAddress block offset) (readCount block offset length)
    answerWith s (okOrClamped (128 < length)) (le 1 bytes.length ++ bytes)

/-- The boundary that STORE_PROTECT sets (R192). -/
def boundaryFor (factoryLock : Bool) (v : Nat) : Nat :=
  if factoryLock ∧ min 64 v < 8 then 8 else min 64 v

/-- The owning rule of STORE_PROTECT (R192). -/
def ownStoreProtect (p : List Byte) (s : State) : Answer :=
  if s.store.operation.isSome then answer s .storeBusy
  else
    let b := boundaryFor s.store.factoryLock (uField p 0 1)
    answerWith { s with store := { s.store with boundary := b } } (okOrClamped (b != uField p 0 1)) (le 1 b)

/-! ## What the phases do to the cells (R190, R191, R196) -/

/-- Data bytes ANDed into a block from an offset, wrapping within the block (R190). -/
def writeBlock (block offset : Nat) : List Byte → List Host.Cell → List Host.Cell
  | [], cells => cells
  | b :: bs, cells => writeBlock block (offset + 1) bs (andCell cells (cellAddress block (offset % 128)) b)

/-- A block's first n bytes set to 0xFF. -/
def eraseBytes (block : Nat) : Nat → List Host.Cell → List Host.Cell
  | 0, cells => cells
  | n + 1, cells => eraseBytes block n (setCell cells (cellAddress block n) 0xFF)

/-- An erase of a block (R185, R191). -/
def eraseBlock (block : Nat) (cells : List Host.Cell) : List Host.Cell :=
  eraseBytes block 128 cells

/-- The cells after the phase in progress has done its work. -/
def phaseCells (w : StoreWork) (cells : List Host.Cell) : List Host.Cell :=
  match w with
  | .write block offset data => writeBlock block offset data cells
  | .erase block => eraseBlock block cells
  | .lock => cells
  | .save n bytes phase =>
    if phase = 1 then eraseBlock (8 + 2 * n) cells
    else if phase = 2 then eraseBlock (9 + 2 * n) cells
    else if phase = 3 then writeBlock (8 + 2 * n) 0 (bytes.take 128) cells
    else writeBlock (9 + 2 * n) 0 (bytes.drop 128) cells

/-- Whether the phase in progress is the last. -/
def lastPhase : StoreWork → Bool
  | .save _ _ phase => 4 ≤ phase
  | _ => true

/-- The work of the phase after the one in progress (R196). -/
def nextPhase : StoreWork → StoreWork
  | .save n bytes phase => .save n bytes (phase + 1)
  | w => w

/-- A SAVE_PROFILE phase other than the last done, the next one's timer armed (R196). -/
def advancePhase (o : StoreOperation) (s : State) : State :=
  { s with store := { s.store with
      cells := phaseCells o.work s.store.cells,
      operation := some ⟨nextPhase o.work, after s.now (phaseDuration (nextPhase o.work))⟩ } }

/-- The store after its operation completes (R193, R194). -/
def completeStore (w : StoreWork) (st : Store) : Store :=
  { st with
    cells := phaseCells w st.cells,
    factoryLock := st.factoryLock || w == .lock,
    boundary := if w = .lock ∧ st.boundary < 8 then 8 else st.boundary,
    operation := none,
    completedOk := true }

/-- A store operation completed (R194): then a waiting reset is made, or QUIESCING may end. -/
def completeOperation (o : StoreOperation) (s : State) : State :=
  endQuiescing (deferredReset { s with store := completeStore o.work s.store })

/-! ## Loss of power (R198) -/

/-- The bytes of an interrupted write, each written or not (free, log 9); `n` is the number of the first choice. -/
def lossWrite (block offset n : Nat) : List Byte → List Host.Cell → List Host.Cell
  | [], cells => cells
  | b :: bs, cells =>
    lossWrite block (offset + 1) (n + 1) bs
      (if Config.lossTakesNew n then andCell cells (cellAddress block (offset % 128)) b else cells)

/-- The bytes of an interrupted erase, each erased or not (free, log 9). -/
def lossErase (block first : Nat) : Nat → List Host.Cell → List Host.Cell
  | 0, cells => cells
  | n + 1, cells =>
    lossErase block first n
      (if Config.lossTakesNew (first + n) then setCell cells (cellAddress block n) 0xFF else cells)

/-- The cells after power is lost in the phase in progress (R198). -/
def lossCells (w : StoreWork) (n : Nat) (cells : List Host.Cell) : List Host.Cell :=
  match w with
  | .write block offset data => lossWrite block offset n data cells
  | .erase block => lossErase block n 128 cells
  | .lock => cells
  | .save p bytes phase =>
    if phase = 1 then lossErase (8 + 2 * p) n 128 cells
    else if phase = 2 then lossErase (9 + 2 * p) n 128 cells
    else if phase = 3 then lossWrite (8 + 2 * p) 0 n (bytes.take 128) cells
    else lossWrite (9 + 2 * p) 0 n (bytes.drop 128) cells

/-- The store after power is lost (R198): its operation is gone; an interrupted lock is set or clear (free). -/
def lossStore (n : Nat) (st : Store) : Store :=
  match st.operation with
  | none => st
  | some o =>
    { st with
      cells := lossCells o.work n st.cells,
      factoryLock := st.factoryLock || (o.work == .lock && Config.lossTakesNew n),
      operation := none }

/-- Power is lost (R198). -/
def losePower (s : State) : State :=
  { s with
    store := lossStore s.freeCount s.store,
    freeCount := s.freeCount + 128,
    powered := false }

/-! ## The commands of the store -/

/-- STORE_UNLOCK (R187). -/
def execStoreUnlock (tag : Byte) (payload : List Byte) (s : State) : Host.Outcome State Fault Refusal :=
  event s (serve .storeUnlock tag payload ownStoreUnlock)

/-- STORE_READ (R189). -/
def execStoreRead (tag : Byte) (payload : List Byte) (s : State) : Host.Outcome State Fault Refusal :=
  event s (serve .storeRead tag payload (ownStoreRead payload))

/-- STORE_WRITE (R190). -/
def execStoreWrite (tag : Byte) (payload : List Byte) (s : State) : Host.Outcome State Fault Refusal :=
  event s (serve .storeWrite tag payload (ownStoreWrite payload))

/-- STORE_ERASE (R191). -/
def execStoreErase (tag : Byte) (payload : List Byte) (s : State) : Host.Outcome State Fault Refusal :=
  event s (serve .storeErase tag payload (ownStoreErase payload))

/-- STORE_PROTECT (R192). -/
def execStoreProtect (tag : Byte) (payload : List Byte) (s : State) : Host.Outcome State Fault Refusal :=
  event s (serve .storeProtect tag payload (ownStoreProtect payload))

/-- STORE_LOCK_FACTORY (R193). -/
def execStoreLockFactory (tag : Byte) (payload : List Byte) (s : State) : Host.Outcome State Fault Refusal :=
  event s (serve .storeLockFactory tag payload ownStoreLockFactory)

/-- SAVE_PROFILE_PHASE_EXPIRY (R196). -/
def execSaveProfilePhaseExpiry (s : State) : Host.Outcome State Fault Refusal :=
  event s fun s =>
    match s.store.operation with
    | none => s
    | some o => if !lastPhase o.work ∧ due (some o.expiry) s.now then advancePhase o s else s

/-- STORE_OPERATION_COMPLETION (R194). -/
def execStoreOperationCompletion (s : State) : Host.Outcome State Fault Refusal :=
  event s fun s =>
    match s.store.operation with
    | none => s
    | some o => if lastPhase o.work ∧ due (some o.expiry) s.now then completeOperation o s else s

/-- POWER_LOSS (R198). -/
def execPowerLoss (s : State) : Host.Outcome State Fault Refusal :=
  event s losePower

end Sys2Proof.Machine
end

