-- ==== Sys2Proof/Machine/Channel.lean ====
section
/-! DEFINITION. The Camera Control Channel (chapter 2): admission with its coalescing, dispatch, the transaction in
flight with its retry and its drop. -/

namespace Sys2Proof.Machine

/-! ## Transactions (R21, R208) -/

/-- Whether two transactions are of the same kind. -/
def sameKind : Transaction → Transaction → Bool
  | .streamOn _ _, .streamOn _ _ => true
  | .streamOff, .streamOff => true
  | .setExposure _, .setExposure _ => true
  | .adjustLength _, .adjustLength _ => true
  | _, _ => false

/-- Whether a transaction is SET_EXPOSURE or ADJUST_LENGTH, which a full queue may discard (R22). -/
def evictable : Transaction → Bool
  | .setExposure _ => true
  | .adjustLength _ => true
  | _ => false

/-- A sent transaction as bytes: kind, attempt number, value (R208). -/
def transactionBytes (t : Transaction) (attempt : Byte) : List Byte :=
  match t with
  | .streamOn mode period => [0x01, attempt, BitVec.ofNat 8 (modeCode mode)] ++ le 2 period
  | .streamOff => [0x02, attempt]
  | .setExposure e => [0x03, attempt] ++ le 2 e
  | .adjustLength n => [0x04, attempt] ++ leInt 1 n

/-! ## Admission (R22, R23) -/

/-- The first pending transaction of the same kind replaced in its position. -/
def replaceSame (t : Transaction) (q : List Transaction) : List Transaction :=
  q.map fun u => if sameKind t u then t else u

/-- The oldest SET_EXPOSURE or ADJUST_LENGTH removed. -/
def evict : List Transaction → List Transaction
  | [] => []
  | t :: q => if evictable t then q else t :: evict q

/-- R22: replace in position, else join at the tail, making room first in a full queue. -/
def joinQueue (t : Transaction) (q : List Transaction) : List Transaction :=
  if q.any (sameKind t) then replaceSame t q
  else if q.length < 4 then q ++ [t]
  else evict q ++ [t]

/-- The pending queue after an admission (R22, R23). -/
def admitQueue (t : Transaction) (q : List Transaction) : List Transaction :=
  match t with
  | .streamOff => [.streamOff]
  | .streamOn m p => joinQueue (.streamOn m p) (q.filter fun u => !sameKind .streamOff u)
  | .setExposure e => joinQueue (.setExposure e) q
  | .adjustLength n => joinQueue (.adjustLength n) q

/-! ## Dispatch (R24) -/

/-- The channel after it sends its oldest pending transaction under a new attempt number. -/
def Channel.sendOldest (c : Channel) (now : PartTime) (t : Transaction) (rest : List Transaction) : Channel :=
  { queue := rest,
    inFlight := some ⟨t, c.attempt + 1, false⟩,
    timer := some (after now 2000),
    attempt := c.attempt + 1 }

/-- Dispatch: nothing in flight and something pending. -/
def dispatch (x : Side) (s : State) : State :=
  match (s.side x).channel.inFlight, (s.side x).channel.queue with
  | none, t :: rest =>
    (s.onSide x fun d => { d with channel := d.channel.sendOldest s.now t rest }).emit
      (.transaction x (transactionBytes t ((s.side x).channel.attempt + 1)))
  | _, _ => s

/-- A transaction admitted, and dispatched at once if the channel is idle (R22 to R24). -/
def submit (x : Side) (t : Transaction) (s : State) : State :=
  dispatch x (s.onSide x fun d => { d with channel := { d.channel with queue := admitQueue t d.channel.queue } })

/-! ## The transaction in flight (R25 to R28) -/

/-- The channel with nothing in flight. -/
def Channel.ended (c : Channel) : Channel :=
  { c with inFlight := none, timer := none }

/-- The channel after it sends the transaction in flight a second time (R26). -/
def Channel.resent (c : Channel) (now : PartTime) (f : Flight) : Channel :=
  { c with
    inFlight := some ⟨f.transaction, c.attempt + 1, true⟩,
    timer := some (after now 2000),
    attempt := c.attempt + 1 }

/-- Whether an acknowledgement carries the current attempt number of a transaction in flight (R28). -/
def current (x : Side) (attempt : Byte) (s : State) : Bool :=
  match (s.side x).channel.inFlight with
  | none => false
  | some f => f.attempt == attempt

/-- R25: the transaction in flight is complete. -/
def acknowledged (x : Side) (s : State) : State :=
  dispatch x (gone x .cameraControlFail (s.onSide x fun d => { d with channel := d.channel.ended }))

/-- R26, R27: the first failure of a transaction is retried, the second drops it. With nothing in flight no timer
runs. -/
def failed (x : Side) (s : State) : State :=
  match (s.side x).channel.inFlight with
  | none => s.onSide x fun d => { d with channel := d.channel.ended }
  | some f =>
    if f.retried then
      dispatch x (raise x .cameraControlFail (s.onSide x fun d => { d with channel := d.channel.ended }))
    else
      ((s.onSide x fun d => { d with channel := d.channel.resent s.now f }).count x fun c =>
          { c with cameraRetries := satInc c.cameraRetries }).emit
        (.transaction x (transactionBytes f.transaction ((s.side x).channel.attempt + 1)))

/-! ## The commands of the channel -/

/-- DISPATCH (R24). The events that submit a transaction, or end one, dispatch already (log 21). -/
def execDispatch (x : Side) (s : State) : Host.Outcome State Fault Refusal :=
  event s (dispatch x)

/-- ACK_ARRIVAL (R25, R28). An answer byte other than 0 is no ACK: neither 0 nor 1 is discarded by R208, 1 by log 26. -/
def execAckArrival (x : Side) (answerByte attempt : Byte) (s : State) : Host.Outcome State Fault Refusal :=
  event s fun s =>
    if answerByte = 0 ∧ current x attempt s then endQuiescing (settle (acknowledged x s)) else s

/-- NACK_ARRIVAL (R26 to R28). An answer byte other than 1 is no NACK: neither 0 nor 1 is discarded by R208, 0 by
log 26. -/
def execNackArrival (x : Side) (answerByte attempt : Byte) (s : State) : Host.Outcome State Fault Refusal :=
  event s fun s =>
    if answerByte = 1 ∧ current x attempt s then endQuiescing (settle (failed x s)) else s

/-- TRANSACTION_TIMER_EXPIRY (R26, R27). -/
def execTransactionTimerExpiry (x : Side) (s : State) : Host.Outcome State Fault Refusal :=
  event s fun s =>
    if due (s.side x).channel.timer s.now then endQuiescing (settle (failed x s)) else s

end Sys2Proof.Machine
end

