-- ==== Sys2Proof/Machine/Ring.lean ====
section
/-! DEFINITION. The Frame Ring (section 7.1): the transitions of its three slots. -/

namespace Sys2Proof.Machine

/-- Every slot changed alike. -/
def Ring.map (f : Slot → Slot) (r : Ring) : Ring :=
  ⟨f r.slot0, f r.slot1, f r.slot2⟩

/-- Whether a slot is in a state. -/
def Ring.has (st : SlotState) (r : Ring) : Bool :=
  r.slot0.state == st || r.slot1.state == st || r.slot2.state == st

/-- The lowest-numbered slot in a state. -/
def Ring.find (st : SlotState) (r : Ring) : Option Slot :=
  if r.slot0.state = st then some r.slot0
  else if r.slot1.state = st then some r.slot1
  else if r.slot2.state = st then some r.slot2
  else none

/-- A slot in a state made FREE, its frame discarded. -/
def freeIf (st : SlotState) (slot : Slot) : Slot :=
  if slot.state = st then freeSlot else slot

/-- The lowest-numbered FREE slot made WRITING with a frame record (R114). -/
def openFree (rec : FrameRecord) (r : Ring) : Ring :=
  if r.slot0.state = .free then { r with slot0 := ⟨.writing, some rec, []⟩ }
  else if r.slot1.state = .free then { r with slot1 := ⟨.writing, some rec, []⟩ }
  else if r.slot2.state = .free then { r with slot2 := ⟨.writing, some rec, []⟩ }
  else r

/-- A frame start opens a slot (R114): a slot still WRITING is first made FREE. -/
def Ring.openSlot (rec : FrameRecord) (r : Ring) : Ring :=
  openFree rec (r.map (freeIf .writing))

/-- A frame that does not complete gives its slot back (R116). -/
def Ring.discard (r : Ring) : Ring :=
  r.map (freeIf .writing)

/-- WRITING becomes READY. -/
def readyIfWriting (slot : Slot) : Slot :=
  if slot.state = .writing then { slot with state := .ready } else slot

/-- A good frame end completes the frame (R115): an older READY frame is dropped. -/
def Ring.complete (r : Ring) : Ring :=
  if r.has .writing then (r.map (freeIf .ready)).map readyIfWriting else r

/-- Whether a completion drops an older READY frame (R115). -/
def Ring.dropsReady (r : Ring) : Bool :=
  r.has .writing && r.has .ready

/-- What the ring hands on at a VSYNC (R117). -/
inductive RingOutcome where
  | fresh
  | repeated
  | noFrame
  deriving DecidableEq, Repr

/-- The choice of R117. -/
def Ring.outcome (r : Ring) : RingOutcome :=
  if r.has .ready then .fresh else if r.has .showing then .repeated else .noFrame

/-- READY becomes SHOWING with use count 1. -/
def showReady (slot : Slot) : Slot :=
  if slot.state = .ready then
    { slot with state := .showing, record := slot.record.map fun f => { f with useCount := 1 } }
  else slot

/-- The use count of the SHOWING slot incremented, saturating at 65,535. -/
def useAgain (slot : Slot) : Slot :=
  if slot.state = .showing then
    { slot with record := slot.record.map fun f => { f with useCount := min 65535 (f.useCount + 1) } }
  else slot

/-- The transition of R117. -/
def Ring.choose (r : Ring) : Ring :=
  match r.outcome with
  | .fresh => (r.map (freeIf .showing)).map showReady
  | .repeated => r.map useAgain
  | .noFrame => r

/-- The frame record of the SHOWING slot. -/
def Ring.shownRecord (r : Ring) : Option FrameRecord :=
  match r.find .showing with
  | none => none
  | some slot => slot.record

/-- The repeat run (R117): the use count of the SHOWING slot minus 1. -/
def Ring.repeatRun (r : Ring) : Nat :=
  match r.shownRecord with
  | none => 0
  | some f => f.useCount - 1

/-- All slots FREE (R113, R116). -/
def emptyRing : Ring :=
  ⟨freeSlot, freeSlot, freeSlot⟩

end Sys2Proof.Machine
end

