-- ==== Sys2Proof/Machine/Capture.lean ====
section
/-! DEFINITION. The triggers, the Camera Input Port and the Phase Follower (chapters 1 and 2): camera trigger expiry
and hold, frame starts, lines and frame ends, the link-lost timer, and SET_TIMING. -/

namespace Sys2Proof.Machine

/-! ## Camera triggers (R2 to R7) -/

/-- A trigger past one expiry: the next-fire time advances by the period (R4, R5). -/
def Trigger.advance (t : Trigger) : Trigger :=
  { t with next := after t.next t.period }

/-- A trigger armed for a part time with a period (R2). -/
def armedTrigger (next : PartTime) (period : Nat) : Trigger :=
  ⟨true, next, period⟩

/-- The VSYNC and CAM triggers of a side armed at part time t (R3): CAM at t + P − (L_c modulo P). -/
def startTriggers (t : PartTime) (timing : Timing) (d : SideState) : SideState :=
  { d with
    vsync := armedTrigger (after t timing.framePeriod) timing.framePeriod,
    cam := armedTrigger (after t (timing.framePeriod - timing.cameraLead % timing.framePeriod)) timing.framePeriod }

/-- An on-time firing: one pulse, and TRIGGER_LATE told gone (R5). -/
def fire (x : Side) (s : State) : State :=
  gone x .triggerLate (s.emit (.pulse x))

/-- A held trigger dropped late (R6, R7). -/
def dropLate (x : Side) (s : State) : State :=
  raise x .triggerLate (s.count x fun c => { c with triggersLate := satInc c.triggersLate })

/-- The hold of a camera trigger cleared. -/
def clearHold (x : Side) (s : State) : State :=
  s.onSide x fun d => { d with held := none }

/-- A held trigger released (R7): fired if held 2,000 µs or less, dropped otherwise. -/
def releaseHold (x : Side) (s : State) : State :=
  match (s.side x).held with
  | none => s
  | some start =>
    if duration s.now start ≤ 2000 then fire x (clearHold x s) else dropLate x (clearHold x s)

/-- An expiry held from its expiry time; an earlier hold is first dropped as late (R6). -/
def holdTrigger (x : Side) (expiry : PartTime) (s : State) : State :=
  let s := if (s.side x).held.isSome then dropLate x s else s
  s.onSide x fun d => { d with held := some expiry }

/-- A camera trigger expiry (R5). -/
def camExpired (x : Side) (s : State) : State :=
  let expiry := (s.side x).cam.next
  let s := s.onSide x fun d => { d with cam := d.cam.advance }
  match s.syncMode x with
  | .follow => s
  | .triggered => if (s.side x).port.frame.isSome then holdTrigger x expiry s else fire x s

/-! ## The Phase Follower (R31 to R33) -/

/-- The signed difference of a capture time and a next-fire time (R31). -/
def signedDifference (c g : PartTime) : Int :=
  if later g c then -(duration g c : Int) else duration c g

/-- The phase error of a frame start (R31). -/
def phaseError (c g : PartTime) (period : Nat) : Int :=
  let d := signedDifference c g % period
  if 2 * d ≤ period then d else d - period

/-- A quotient rounded half away from zero (00_scope 3.3). -/
def roundAway (n : Int) (d : Nat) : Int :=
  if 0 ≤ n then ((2 * n.natAbs + d) / (2 * d) : Nat) else -((2 * n.natAbs + d) / (2 * d) : Nat)

/-- The line correction n of a phase error (R32). -/
def lineCorrection (e : Int) (period : Nat) : Int :=
  clampInt (-8) 8 (roundAway (e * 1125) period)

/-- R32: a correction admitted unless one is outstanding, the frame is in tolerance, or it rounds to no line. -/
def phaseCorrect (x : Side) (e : Int) (s : State) : State :=
  if (s.side x).follower.outstanding then
    s.onSide x fun d => { d with follower := { d.follower with outstanding := false } }
  else if e.natAbs ≤ s.timing.tolerance then s
  else if lineCorrection e s.timing.framePeriod = 0 then s
  else
    submit x (.adjustLength (-(lineCorrection e s.timing.framePeriod)))
      (s.onSide x fun d => { d with follower := { d.follower with outstanding := true } })

/-- The run counts after a frame measured in tolerance or out of it (R33). -/
def phaseRuns (inTolerance : Bool) (f : Follower) : Follower :=
  if inTolerance then { f with outRun := 0, inRun := min 10 (f.inRun + 1) }
  else { f with inRun := 0, outRun := min 60 (f.outRun + 1) }

/-- R33: the runs updated, PHASE_UNLOCKED raised at 60 and told gone at 10. -/
def phaseCount (x : Side) (e : Int) (s : State) : State :=
  let inTolerance : Bool := e.natAbs ≤ s.timing.tolerance
  let s := s.onSide x fun d => { d with follower := phaseRuns inTolerance d.follower }
  if inTolerance then (if (s.side x).follower.inRun = 10 then gone x .phaseUnlocked s else s)
  else if (s.side x).follower.outRun = 60 then raise x .phaseUnlocked s else s

/-- A frame start handed to the follower of a camera in FOLLOW mode (R30, R31). -/
def measurePhase (x : Side) (s : State) : State :=
  match s.syncMode x with
  | .triggered => s
  | .follow =>
    let e := phaseError s.now (s.side x).cam.next s.timing.framePeriod
    phaseCount x e (phaseCorrect x e s)

/-! ## The Camera Input Port (R9 to R17) -/

/-- A frame found malformed: raised and told gone in the one event, and counted (R12, R15, R139). -/
def malformed (x : Side) (s : State) : State :=
  gone x .frameMalformed (raise x .frameMalformed
    (s.count x fun c => { c with malformed := satInc c.malformed }))

/-- E_frame as the port keeps it (R10). -/
def keptExposure (exposure : Word16) : Nat :=
  clampNat 1 4096 exposure.toNat

/-- The blocks of a side at the start of a frame: the port, the Tone Stage's latch, the ring's slot and the collecting
set (R11, R37, R82, R114). -/
def beginFrame (now : PartTime) (period : Nat) (number exposure length : Word16) (d : SideState) : SideState :=
  { latch d with
    port := { d.port with
      frame := some ⟨now, number, keptExposure exposure, length.toNat, 0, true, 0xFFFFFFFF⟩,
      linkLost := some (after now (2 * period)) },
    stats := { d.stats with collecting := some (beginCollecting (keptExposure exposure) d.glare.settings.level) },
    ring := d.ring.openSlot ⟨number, now, keptExposure exposure, d.gain.version, 0⟩ }

/-- A frame start arrival (R11, R12, R19). -/
def frameStart (x : Side) (number exposure length : Word16) (s : State) : State :=
  if (s.side x).sup.view = .off then s
  else
    let s := if (s.side x).port.frame.isSome then malformed x s else s
    let s := s.onSide x (beginFrame s.now s.timing.framePeriod number exposure length)
    settle (measurePhase x (gone x .linkLost s))

/-- The codes of a line that the image signature samples (R14): every 64th column. -/
def sampledCodes (codes : List Nat) : List Nat :=
  (List.range 30).map fun i => codes.getD (64 * i) 0

/-- The signature register after a used line in a row (R14): every 16th row is sampled. -/
def signLine (row : Nat) (codes : List Nat) (c : Word32) : Word32 :=
  if row % 16 = 0 then (sampledCodes codes).foldl signCode c else c

/-- A line whose pixels are used: signature, development, statistics (R13). -/
def usedLine (f : FrameInProgress) (codes : List Nat) (d : SideState) : SideState :=
  let line := codes.map decompand
  let d := developLine f.lineCount line d
  { d with
    port := { d.port with
      frame := some { f with lineCount := f.lineCount + 1, signature := signLine f.lineCount codes f.signature } },
    stats := { d.stats with collecting := d.stats.collecting.map (useLine f.lineCount line) } }

/-- A line whose pixels are not used: the shape flag becomes bad, and the line is counted below 1,080 (R13). -/
def unusedLine (f : FrameInProgress) (d : SideState) : SideState :=
  { d with
    port := { d.port with
      frame := some { f with lineCount := min 1080 (f.lineCount + 1), shapeGood := false } },
    stats := { d.stats with collecting := d.stats.collecting.map skipLine } }

/-- A line arrival (R13, R19): 1,920 pixels are 3,840 bytes (R208). -/
def lineArrived (x : Side) (bytes : List Byte) (s : State) : State :=
  if (s.side x).sup.view = .off then s
  else
    match (s.side x).port.frame with
    | none => s
    | some f =>
      s.onSide x fun d =>
        if f.lineCount < 1080 ∧ bytes.length = 3840 then usedLine f (lineCodes bytes) d else unusedLine f d

/-- The shape check of R15. -/
def shapeCheck (f : FrameInProgress) : Bool :=
  f.lineCount == 1080 && f.shapeGood && 1117 ≤ f.length && f.length ≤ 1133

/-- The port with no frame in progress. -/
def Port.idle (p : Port) : Port :=
  { p with frame := none }

/-- A frame in progress given up: port IDLE, slot and statistics discarded (R15, R17, R40, R116). -/
def abandonFrame (d : SideState) : SideState :=
  { d with port := d.port.idle, stats := { d.stats with collecting := none }, ring := d.ring.discard }

/-- Whether a frame is unchanged from the last good frame (R16). -/
def unchanged (f : FrameInProgress) (p : Port) : Bool :=
  p.prevNumber == some f.number || p.prevSignature == some (~~~f.signature)

/-- The port after a good frame (R16). -/
def Port.good (p : Port) (f : FrameInProgress) : Port :=
  { p with
    frame := none,
    frozenRun := if unchanged f p then p.frozenRun + 1 else 0,
    prevNumber := some f.number,
    prevSignature := some (~~~f.signature) }

/-- The counters after a good frame (R16, R115). -/
def countGood (ring : Ring) (c : Counters) : Counters :=
  { c with
    framesCaptured := satInc c.framesCaptured,
    dropped := if ring.dropsReady then satInc c.dropped else c.dropped }

/-- The blocks of a side at the end of a good frame (R16, R39, R115). -/
def passGood (f : FrameInProgress) (d : SideState) : SideState :=
  { completeStatistics d with
    port := d.port.good f,
    counters := countGood d.ring d.counters,
    ring := d.ring.complete }

/-- SENSOR_FROZEN raised when the run reaches 3, told gone by a changed frame (R16). -/
def frozenCheck (x : Side) (f : FrameInProgress) (before : Port) (s : State) : State :=
  if unchanged f before then (if before.frozenRun + 1 = 3 then raise x .sensorFrozen s else s)
  else gone x .sensorFrozen s

/-- A frame end arrival (R15, R16, R19). -/
def frameEnd (x : Side) (s : State) : State :=
  if (s.side x).sup.view = .off then s
  else
    match (s.side x).port.frame with
    | none => s
    | some f =>
      let t :=
        if shapeCheck f then frozenCheck x f (s.side x).port (s.onSide x (passGood f))
        else malformed x (s.onSide x abandonFrame)
      settle (releaseHold x t)

/-- The link-lost timer's expiry (R17). -/
def linkLostExpired (x : Side) (s : State) : State :=
  let receiving := (s.side x).port.frame.isSome
  let s := raise x .linkLost
    (s.onSide x fun d => { d with port := { d.port with linkLost := none } })
  settle (if receiving then releaseHold x (s.onSide x abandonFrame) else s)

/-! ## SET_TIMING (R8) -/

/-- The timing settings a SET_TIMING payload carries, its codes read (R8, R203). -/
def timingRequest (p : List Byte) : Option Timing :=
  match modeOfCode (uField p 4 1), modeOfCode (uField p 5 1) with
  | some l, some r => some ⟨uField p 0 2, uField p 2 2, l, r, uField p 6 2⟩
  | _, _ => none

/-- Each quantity clamped into its range (R8). -/
def clampTiming (t : Timing) : Timing :=
  { t with
    framePeriod := clampNat 16000 40000 t.framePeriod,
    cameraLead := clampNat 2000 60000 t.cameraLead,
    tolerance := clampNat 20 2000 t.tolerance }

/-- The timing settings as a reply carries them (R8). -/
def timingBytes (t : Timing) : List Byte :=
  le 2 t.framePeriod ++ le 2 t.cameraLead ++ le 1 (modeCode t.modeLeft) ++ le 1 (modeCode t.modeRight) ++
    le 2 t.tolerance

/-- The owning rule of SET_TIMING (R8). -/
def ownSetTiming (p : List Byte) (s : State) : Answer :=
  match timingRequest p with
  | none => answer s .badValue
  | some t =>
    if s.left.sup.view ≠ .off ∨ s.right.sup.view ≠ .off then answer s .refusedState
    else answerWith { s with timing := clampTiming t } (okOrClamped (clampTiming t != t)) (timingBytes (clampTiming t))

/-! ## The commands of capture -/

/-- CAM_TRIGGER_EXPIRY (R5, R6). -/
def execCamTriggerExpiry (x : Side) (s : State) : Host.Outcome State Fault Refusal :=
  event s fun s => if (s.side x).cam.due s.now then settle (camExpired x s) else s

/-- FRAME_START_ARRIVAL (R11, R12). -/
def execFrameStartArrival (x : Side) (number exposure length : Word16) (s : State) :
    Host.Outcome State Fault Refusal :=
  event s (frameStart x number exposure length)

/-- LINE_ARRIVAL (R13). -/
def execLineArrival (x : Side) (bytes : List Byte) (s : State) : Host.Outcome State Fault Refusal :=
  event s (lineArrived x bytes)

/-- FRAME_END_ARRIVAL (R15, R16). -/
def execFrameEndArrival (x : Side) (s : State) : Host.Outcome State Fault Refusal :=
  event s (frameEnd x)

/-- LINK_LOST_TIMER_EXPIRY (R17). -/
def execLinkLostTimerExpiry (x : Side) (s : State) : Host.Outcome State Fault Refusal :=
  event s fun s => if due (s.side x).port.linkLost s.now then linkLostExpired x s else s

/-- SET_TIMING (R8). -/
def execSetTiming (tag : Byte) (payload : List Byte) (s : State) : Host.Outcome State Fault Refusal :=
  event s (serve .setTiming tag payload (ownSetTiming payload))

end Sys2Proof.Machine
end

