-- ==== Sys2Proof/Machine/Display.lean ====
section
/-! DEFINITION. The Display Port (chapter 7): the VSYNC expiry with the output frame it sends, the pixels of an output
frame, the shown-frame history, and the echoes. -/

namespace Sys2Proof.Machine

/-! ## The pixels of an output frame (R122 to R125, R206) -/

/-- A developed code of a frame kept by rows. -/
def codeAt (rows : List (Nat × List Nat)) (x y : Nat) : Nat :=
  ((rows.lookup y).getD []).getD x 0

/-- Red, green and blue of the quad that holds a sensor pixel (R123). -/
def quadColour (rows : List (Nat × List Nat)) (x y : Nat) : Nat × Nat × Nat :=
  let qx := 2 * (x / 2)
  let qy := 2 * (y / 2)
  (codeAt rows qx qy, (codeAt rows (qx + 1) qy + codeAt rows qx (qy + 1)) / 2, codeAt rows (qx + 1) (qy + 1))

/-- The sensor pixel of a visible pixel (u, v) (R123). -/
def sensorPixel (main wide : Window) (u v : Nat) : Nat × Nat :=
  if v < 520 then (main.x + u * main.w / 1280, main.y + v * main.h / 520)
  else (wide.x + u * wide.w / 1280, wide.y + (v - 520) * wide.h / 280)

/-- A visible pixel of an image with its overlays (R123, R124): the degraded marker lies over the distance markers. -/
def imagePixel (rows : List (Nat × List Nat)) (main wide : Window) (markers : List Nat) (degraded : Bool)
    (u v : Nat) : Nat × Nat × Nat :=
  if degraded ∧ v ≤ 31 ∧ 1248 ≤ u ∧ u ≤ 1279 then (1023, 0, 0)
  else if v < 520 ∧ v ∈ markers then (1023, 768, 0)
  else
    let p := sensorPixel main wide u v
    quadColour rows p.1 p.2

/-- A visible pixel (u, v) of an output frame, u from 0 to 1,279 and v from 0 to 799 (R123 to R125). -/
def visiblePixel (c : Content) (u v : Nat) : Nat × Nat × Nat :=
  match c with
  | .startingPattern => if 380 ≤ v ∧ v ≤ 419 then (768, 768, 768) else (256, 256, 256)
  | .blankedPattern =>
    if v ≤ 15 ∨ (784 ≤ v ∧ v ≤ 799) ∨ u ≤ 15 ∨ (1264 ≤ u ∧ u ≤ 1279) then (1023, 0, 0) else (0, 0, 0)
  | .image rows main wide markers degraded => imagePixel rows main wide markers degraded u v

/-- Pixel k of the tag line of an output frame (R206). -/
def tagPixel (f : OutputFrame) (k : Nat) : Nat × Nat × Nat :=
  let b := (f.tag.getD k 0).toNat
  (b, b, b)

/-! ## Composition (R122, R126) -/

/-- Whether an output frame shows the SHOWING slot (R122). -/
def showsImage (view : ViewState) (ring : Ring) : Bool :=
  (view == .normal || view == .degraded) && ring.has .showing

/-- The developed rows of the SHOWING slot. -/
def shownRows (ring : Ring) : List (Nat × List Nat) :=
  match ring.find .showing with
  | none => []
  | some slot => slot.rows

/-- The visible content of an output frame (R122). -/
def compose (d : SideState) : Content :=
  match d.sup.view with
  | .blanked => .blankedPattern
  | .normal =>
    if d.ring.has .showing then
      .image (shownRows d.ring) d.geometry.mainShown d.geometry.wideShown (markerRows d.geometry) false
    else .startingPattern
  | .degraded =>
    if d.ring.has .showing then
      .image (shownRows d.ring) d.geometry.mainShown d.geometry.wideShown (markerRows d.geometry) true
    else .startingPattern
  | .starting => .startingPattern
  | .off => .startingPattern

/-- The frame record that an output frame shows; none for a pattern. -/
def shownFrame (d : SideState) : Option FrameRecord :=
  if showsImage d.sup.view d.ring then d.ring.shownRecord else none

/-- The first 15 bytes of the tag line (R126, R205). -/
def tagFields (x : Side) (number : Word16) (d : SideState) : List Byte :=
  let f := shownFrame d
  le 1 (sideCode x) ++ le 2 number.toNat ++ le 2 ((f.map fun r => r.number.toNat).getD 0) ++
    le 4 ((f.map fun r => r.captureTime.toNat).getD 0) ++ le 2 ((f.map fun r => r.exposure).getD 0) ++
    le 1 (viewCode d.sup.view) ++ le 1 (overrideBits d.geometry.overrides) ++
    le 2 ((f.map fun r => r.version.toNat).getD 0)

/-- The tag CRC of an output frame (R126). -/
def tagCrc (x : Side) (number : Word16) (d : SideState) : Word16 :=
  crc16 (tagFields x number d)

/-- The output frame of a side under a number (R122, R126). -/
def outputFrame (x : Side) (number : Word16) (d : SideState) : OutputFrame :=
  ⟨tagFields x number d ++ le 2 (tagCrc x number d).toNat, compose d⟩

/-- An entry appended to the shown-frame history, which keeps at most 8 (R127). -/
def appendShown (e : Shown) (history : List Shown) : List Shown :=
  (if history.length < 8 then history else history.drop 1) ++ [e]

/-- One output frame sent (R122, R127): numbered, composed, entered in the history; the echo timer is armed at the
first one after a start. -/
def sendFrame (x : Side) (now : PartTime) (period : Nat) (d : SideState) : SideState :=
  let number := d.display.number + 1
  { d with
    display := { d.display with
      number := number,
      begun := true,
      history := appendShown ⟨number, (shownFrame d).map FrameRecord.captureTime, tagCrc x number d⟩ d.display.history,
      echoTimer := if d.display.begun then d.display.echoTimer else some (after now (3 * period)),
      sending := some (outputFrame x number d) },
    counters := { d.counters with
      neverEchoed :=
        if d.display.history.length < 8 then d.counters.neverEchoed else satInc d.counters.neverEchoed } }

/-! ## The VSYNC expiry (R4, R109, R117, R120, R122, R146) -/

/-- The blocks of a side at a VSYNC before the supervisor's part: the trigger advances, the windows slew, the ring
chooses. -/
def vsyncBlocks (d : SideState) : SideState :=
  { d with
    vsync := d.vsync.advance,
    geometry := slew d.geometry,
    ring := d.ring.choose,
    counters :=
      if d.ring.outcome = .repeated then { d.counters with repeated := satInc d.counters.repeated } else d.counters }

/-- R146 for a fresh frame: the start timer disarmed, START_TIMEOUT told gone. -/
def freshFrame (x : Side) (s : State) : State :=
  gone x .startTimeout (s.onSide x fun d => { d with sup := { d.sup with startTimer := none } })

/-- The check of DISPLAY_REPEAT (R120). -/
def repeatCheck (x : Side) (outcome : RingOutcome) (s : State) : State :=
  match outcome with
  | .fresh => gone x .displayRepeat s
  | .repeated =>
    if (s.side x).display.repeatLimit ≤ (s.side x).ring.repeatRun then raise x .displayRepeat s else s
  | .noFrame => s

/-- A side in STARTING goes to its evaluated state at a fresh frame (R146). -/
def endStarting (x : Side) (outcome : RingOutcome) (s : State) : State :=
  if outcome = .fresh ∧ (s.side x).sup.view = .starting then setView x (evaluated (s.faults x)) s else s

/-- A VSYNC expiry of a running side: slew, choice of frame, supervisor, one output frame. -/
def showFrame (x : Side) (s : State) : State :=
  let outcome := (s.side x).ring.outcome
  let s := s.onSide x vsyncBlocks
  let s := if outcome = .fresh then freshFrame x s else s
  let s := settle (endStarting x outcome (repeatCheck x outcome s))
  s.onSide x (sendFrame x s.now s.timing.framePeriod)

/-- A VSYNC expiry of a side. A side that is OFF sends nothing (R122, R133); its VSYNC is disarmed in any case. -/
def vsyncExpired (x : Side) (s : State) : State :=
  if (s.side x).sup.view = .off then s.onSide x fun d => { d with vsync := d.vsync.advance } else showFrame x s

/-! ## Echoes (R128 to R131, R206) -/

/-- The echo receiver with no record begun and its idle timer disarmed. -/
def clearReceiver (p : Display) : Display :=
  { p with received := [], idleTimer := none }

/-- The place of the history entry of an output frame number. -/
def shownPlace (number : Word16) : List Shown → Option Nat
  | [] => none
  | e :: rest => if e.number = number then some 0 else (shownPlace number rest).map (· + 1)

/-- TAG_MISMATCH by the tag CRCs of an echo and of its entry (R130). -/
def tagCheck (x : Side) (agree : Bool) (s : State) : State :=
  if agree then
    let s := s.onSide x fun d =>
      { d with display := { d.display with mismatchRun := 0, matchRun := min 10 (d.display.matchRun + 1) } }
    if (s.side x).display.matchRun = 10 then gone x .tagMismatch s else s
  else
    let s := s.onSide x fun d =>
      { d with
        display := { d.display with matchRun := 0, mismatchRun := min 3 (d.display.mismatchRun + 1) },
        counters := { d.counters with tagMismatches := satInc d.counters.tagMismatches } }
    if (s.side x).display.mismatchRun = 3 then raise x .tagMismatch s else s

/-- LATENCY_OVER by the latency of an echo whose entry holds a capture time (R131). -/
def latencyCheck (x : Side) (capture : Option PartTime) (s : State) : State :=
  match capture with
  | none => s
  | some c =>
    if (s.side x).display.latencyBudget < duration s.now c then
      let s := s.onSide x fun d =>
        { d with display := { d.display with withinRun := 0, overRun := min 2 (d.display.overRun + 1) } }
      if (s.side x).display.overRun = 2 then raise x .latencyOver s else s
    else
      let s := s.onSide x fun d =>
        { d with display := { d.display with overRun := 0, withinRun := min 10 (d.display.withinRun + 1) } }
      if (s.side x).display.withinRun = 10 then gone x .latencyOver s else s

/-- An echo looked up in the history (R129), and checked if it is found. -/
def lookUpEcho (x : Side) (number crc : Word16) (s : State) : State :=
  match shownPlace number (s.side x).display.history with
  | none => s.count x fun c => { c with echoesUnknown := satInc c.echoesUnknown }
  | some place =>
    match (s.side x).display.history[place]? with
    | none => s
    | some e =>
      let s := s.onSide x fun d =>
        { d with
          display := { d.display with history := d.display.history.drop (place + 1) },
          counters := { d.counters with neverEchoed := satAdd d.counters.neverEchoed place } }
      latencyCheck x e.captureTime (tagCheck x (e.crc == crc) s)

/-- The side check of R128 step 3, then the lookup. -/
def sideCheck (x : Side) (code : Byte) (number crc : Word16) (s : State) : State :=
  if code.toNat = sideCode x then lookUpEcho x number crc (gone x .sideCrossed s)
  else raise x .sideCrossed s

/-- A complete echo record (R128, R206): the receiver is empty again, and on a side that is not OFF the echo is
taken. -/
def echoArrived (x : Side) (code : Byte) (number crc : Word16) (s : State) : State :=
  let s := s.onSide x fun d => { d with display := clearReceiver d.display }
  if (s.side x).sup.view = .off then s
  else
    let s := s.onSide x fun d =>
      { d with
        display := { d.display with echoTimer := some (after s.now (3 * s.timing.framePeriod)) },
        counters := { d.counters with echoes := satInc d.counters.echoes } }
    settle (sideCheck x code number crc (gone x .echoLost s))

/-- A byte on the back-channel (R206): it begins a record if it is 0xEC, joins the record begun, or completes it. -/
def echoByte (x : Side) (b : Byte) (s : State) : State :=
  let received := (s.side x).display.received
  if received.isEmpty ∧ b ≠ 0xEC then s
  else if received.length < 5 then
    s.onSide x fun d =>
      { d with display :=
          { d.display with received := d.display.received ++ [b], idleTimer := some (after s.now 1000) } }
  else
    let record := received ++ [b]
    echoArrived x (record.getD 1 0) (BitVec.ofNat 16 (uField record 2 2)) (BitVec.ofNat 16 (uField record 4 2)) s

/-! ## The commands of the Display Port -/

/-- VSYNC_EXPIRY (R4). -/
def execVsyncExpiry (x : Side) (s : State) : Host.Outcome State Fault Refusal :=
  event s fun s => if (s.side x).vsync.due s.now then vsyncExpired x s else s

/-- ECHO_ARRIVAL (R128): a complete record, taken as it stands (log 13). -/
def execEchoArrival (x : Side) (code : Byte) (number crc : Word16) (s : State) : Host.Outcome State Fault Refusal :=
  event s (echoArrived x code number crc)

/-- ECHO_RECORD_BYTE_ARRIVAL (R206). -/
def execEchoRecordByteArrival (x : Side) (b : Byte) (s : State) : Host.Outcome State Fault Refusal :=
  event s (echoByte x b)

/-- ECHO_TIMER_EXPIRY (R132). -/
def execEchoTimerExpiry (x : Side) (s : State) : Host.Outcome State Fault Refusal :=
  event s fun s =>
    if due (s.side x).display.echoTimer s.now then
      settle (raise x .echoLost (s.onSide x fun d => { d with display := { d.display with echoTimer := none } }))
    else s

/-- ECHO_IDLE_TIMER_EXPIRY (R206): a record cut short is discarded. -/
def execEchoIdleTimerExpiry (x : Side) (s : State) : Host.Outcome State Fault Refusal :=
  event s fun s =>
    if due (s.side x).display.idleTimer s.now then
      s.onSide x fun d => { d with display := clearReceiver d.display }
    else s

end Sys2Proof.Machine
end

