-- ==== Sys2Proof/Machine/Exposure.lean ====
section
/-! DEFINITION. The Exposure Controller (sections 3.3 to 3.5): night state, metering, the exposure step, and
SET_EXPOSURE_LIMITS. -/

namespace Sys2Proof.Machine

/-! ## Night state (R48, R49) -/

/-- Whether an E_frame meets the threshold of the night state it would leave. -/
def nightThreshold (e : Exposure) (frame : Nat) : Bool :=
  match e.night with
  | .day => e.limits.eOn ≤ frame
  | .night => frame ≤ e.limits.eOff

/-- The other night state. -/
def otherNight : NightState → NightState
  | .day => .night
  | .night => .day

/-- The night state and run count after a completion (R48, R49). -/
def nightUpdate (frame : Nat) (e : Exposure) : Exposure :=
  if nightThreshold e frame then
    if e.nightRun + 1 = 30 then { e with night := otherNight e.night, nightRun := 0 }
    else { e with nightRun := e.nightRun + 1 }
  else { e with nightRun := 0 }

/-- The glare table, the region list and the counts emptied (R71). -/
def emptyGlare (g : Glare) : Glare :=
  { g with table := [], regions := [], formed := 0, kept := 0 }

/-- The night update of a side; entry to DAY empties the glare table and publishes an all-4,096 map (R49, R78). -/
def updateNight (frame : Nat) (d : SideState) : SideState :=
  let e := nightUpdate frame d.exposure
  if d.exposure.night = .night ∧ e.night = .day then
    { d with exposure := e, glare := emptyGlare d.glare, gain := publish unityGains d.gain }
  else { d with exposure := e }

/-! ## Metering (R43 to R45) -/

/-- Whether a tile lies in the box of a CONFIRMED entry. -/
def inConfirmed (table : List GlareEntry) (t : Nat) : Bool :=
  table.any fun e => e.state == .confirmed && insideBox t e.box

/-- The metered set: the tiles of either window in force, in NIGHT without those of CONFIRMED entries (R43, R44). -/
def meteredTiles (d : SideState) : List Nat :=
  (List.range 192).filter fun t =>
    (intersects t d.geometry.mainInForce || intersects t d.geometry.wideInForce) &&
      !(d.exposure.night == .night && inConfirmed d.glare.table t)

/-- The metered mean (R45). -/
def meteredMean (c : Completed) (tiles : List Nat) : Nat :=
  (tiles.map fun t => ((c.tiles[t]?).map TileSummary.mean).getD 0).sum / tiles.length

/-- The raw exposure (R45). -/
def rawExposure (limits : ExposureLimits) (frame mean : Nat) : Nat :=
  if mean = 0 then limits.emax else frame * limits.target / mean

/-- The new exposure: one step from E_cmd, then the limits (R46). -/
def newExposure (limits : ExposureLimits) (commanded raw : Nat) : Nat :=
  let step := max 1 (commanded / 8)
  clampNat limits.emin limits.emax (clampNat (commanded - step) (commanded + step) raw)

/-- The exposure that a completion commands; none if the metered set is empty (R45, R46). -/
def meteredExposure (c : Completed) (d : SideState) : Option Nat :=
  let tiles := meteredTiles d
  if tiles.isEmpty then none
  else some (newExposure d.exposure.limits d.exposure.commanded
    (rawExposure d.exposure.limits c.exposure (meteredMean c tiles)))

/-- The metering of a completion (R45, R46). -/
def meter (x : Side) (c : Completed) (s : State) : State :=
  match meteredExposure c (s.side x) with
  | none => s
  | some e =>
    if e = (s.side x).exposure.commanded then s
    else submit x (.setExposure e) (s.onSide x fun d => { d with exposure := { d.exposure with commanded := e } })

/-- The Exposure Controller takes its oldest completion, if there is one (R41, R43). -/
def takeExposure (x : Side) (s : State) : State :=
  match (s.side x).exposure.waiting with
  | [] => s
  | c :: rest =>
    meter x c (s.onSide x fun d =>
      updateNight c.exposure { d with exposure := { d.exposure with waiting := rest } })

/-! ## Exposure settings (R47) -/

/-- The five settings clamped and then corrected against one another (R47). -/
def correctLimits (l : ExposureLimits) : ExposureLimits :=
  let emin := clampNat 1 4096 l.emin
  let emax := clampNat 1 4096 l.emax
  let eOn := clampNat 1 4096 l.eOn
  let eOff := clampNat 1 4096 l.eOff
  { emin := if emax < emin then emax else emin,
    emax := emax,
    target := clampNat 1000 400000 l.target,
    eOn := if eOn ≤ eOff ∧ eOn = 1 then 2 else eOn,
    eOff := if eOn ≤ eOff then (if eOn = 1 then 1 else eOn - 1) else eOff }

/-- Exposure settings of a side set. -/
def setLimits (l : ExposureLimits) (s : State) (x : Side) : State :=
  s.onSide x fun d => { d with exposure := { d.exposure with limits := l } }

/-- The settings of a SET_EXPOSURE_LIMITS payload (R203). -/
def limitsRequest (p : List Byte) : ExposureLimits :=
  ⟨uField p 1 2, uField p 3 2, uField p 5 4, uField p 9 2, uField p 11 2⟩

/-- The settings as a reply carries them (R47). -/
def limitsBytes (l : ExposureLimits) : List Byte :=
  le 2 l.emin ++ le 2 l.emax ++ le 4 l.target ++ le 2 l.eOn ++ le 2 l.eOff

/-- The owning rule of SET_EXPOSURE_LIMITS (R47). -/
def ownSetExposureLimits (p : List Byte) (s : State) : Answer :=
  match namedSides (uField p 0 1) with
  | none => answer s .badValue
  | some sides =>
    let l := correctLimits (limitsRequest p)
    answerWith (sides.foldl (setLimits l) s) (okOrClamped (l != limitsRequest p)) (limitsBytes l)

/-! ## The commands of the Exposure Controller -/

/-- EXPOSURE_COMPLETION_TAKEN (R43). -/
def execExposureCompletionTaken (x : Side) (s : State) : Host.Outcome State Fault Refusal :=
  event s (takeExposure x)

/-- SET_EXPOSURE_LIMITS (R47). -/
def execSetExposureLimits (tag : Byte) (payload : List Byte) (s : State) : Host.Outcome State Fault Refusal :=
  event s (serve .setExposureLimits tag payload (ownSetExposureLimits payload))

end Sys2Proof.Machine
end

