-- ==== Sys2Proof/Machine/Views.lean ====
section
/-! DEFINITION. Starting and stopping a side (sections 8.3, 8.4): what START_VIEW, the wake line and the end of INIT
do to every block of a side, what STOP_VIEW and STANDBY do, and the start timer. -/

namespace Sys2Proof.Machine

/-! ## Starting (R144) -/

/-- The view state in which a side starts (R144). -/
def startView (f : FaultSet) : ViewState :=
  if f.holdsClass .blank then .blanked else .starting

/-- The port at a start (R9). -/
def startPort (t : PartTime) (period : Nat) : Port :=
  ⟨none, none, none, 0, some (after t (2 * period))⟩

/-- The Display Port at a start (R133). -/
def startDisplay (p : Display) : Display :=
  { clearReceiver p with
    begun := false, echoTimer := none, mismatchRun := 0, matchRun := 0, overRun := 0, withinRun := 0 }

/-- The blocks of a side at a start, but for the view state and the channel (R3, R9, R30, R36, R50, R112, R133). -/
def startBlocks (x : Side) (t : PartTime) (timing : Timing) (signals : SignalTable) (d : SideState) : SideState :=
  { startTriggers t timing d with
    port := startPort t timing.framePeriod,
    follower := ⟨false, 0, 0⟩,
    stats := ⟨none, none⟩,
    exposure := { d.exposure with night := .day, nightRun := 0 },
    geometry := startGeometry x signals d.geometry,
    display := startDisplay d.display,
    sup := { d.sup with startTimer := some (after t (d.sup.startTimeout * 1000)) } }

/-- A start of a side (R144), with STREAM_ON admitted to its channel (R29). -/
def startSide (s : State) (x : Side) : State :=
  submit x (.streamOn (s.syncMode x) s.timing.framePeriod)
    (setView x (startView (s.faults x)) (s.onSide x (startBlocks x s.now s.timing s.signals)))

/-- Both sides started in one event. -/
def startBoth (s : State) : State :=
  startSide (startSide s .left) .right

/-- A side started if it is OFF (R183). -/
def startIfOff (s : State) (x : Side) : State :=
  if (s.side x).sup.view = .off then startSide s x else s

/-! ## Stopping (R149) -/

/-- Whether a stop removes a kind: AUTO and of scope side (R149 step 1). -/
def removedAtStop (k : FaultKind) : Bool :=
  kindScope k == .side && !latched k

/-- One kind removed from the set of a side, with a CLEARED transition if it stood there. -/
def removeKind (x : Side) (flag : FlagClass) (s : State) (k : FaultKind) : State :=
  if (s.faults x).stands k then (s.setFault x k .absent).hand ⟨k, .cleared, recordScope k x, flag⟩ else s

/-- The Display Port at a stop (R133). -/
def stopDisplay (p : Display) : Display :=
  { clearReceiver p with history := [], echoTimer := none, sending := none }

/-- The port at a stop (R19): what it holds of the last good frame stays until the next start. -/
def stopPort (p : Port) : Port :=
  { p with frame := none, linkLost := none }

/-- A trigger disarmed (R19). -/
def Trigger.disarm (t : Trigger) : Trigger :=
  { t with armed := false }

/-- The blocks of a side at a stop, but for the view state, the set and the channel (R19, R40, R50, R54, R71, R90,
R112, R116, R133). -/
def stopBlocks (x : Side) (d : SideState) : SideState :=
  { d with
    vsync := d.vsync.disarm,
    cam := d.cam.disarm,
    held := none,
    port := stopPort d.port,
    stats := ⟨none, none⟩,
    exposure := { d.exposure with waiting := [] },
    glare := { emptyGlare d.glare with waiting := [] },
    tone := { d.tone with latched := none },
    geometry := stopGeometry x d.geometry,
    ring := emptyRing,
    display := stopDisplay d.display,
    sup := { d.sup with startTimer := none } }

/-- A stop of a side (R149), with STREAM_OFF admitted to its channel (R29). -/
def stopSide (s : State) (x : Side) : State :=
  let s := (allKinds.filter removedAtStop).foldl (removeKind x .plain) s
  submit x .streamOff ((setView x .off s).onSide x (stopBlocks x))

/-- A side stopped if it is not OFF (R148). -/
def stopIfRunning (s : State) (x : Side) : State :=
  if (s.side x).sup.view = .off then s else stopSide s x

/-! ## START_VIEW and STOP_VIEW (R143, R148) -/

/-- The view states of L and R as a reply carries them. -/
def viewBytes (s : State) : List Byte :=
  le 1 (viewCode s.left.sup.view) ++ le 1 (viewCode s.right.sup.view)

/-- The owning rule of START_VIEW (R143). -/
def ownStartView (p : List Byte) (s : State) : Answer :=
  match namedSides (uField p 0 1) with
  | none => answer s .badValue
  | some sides =>
    if sides.any fun x => (s.side x).sup.view != .off then answer s .refusedState
    else
      let t := sides.foldl startSide s
      answerWith t .ok (viewBytes t)

/-- The owning rule of STOP_VIEW (R148). -/
def ownStopView (p : List Byte) (s : State) : Answer :=
  match namedSides (uField p 0 1) with
  | none => answer s .badValue
  | some sides =>
    let t := settle (sides.foldl stopIfRunning s)
    answerWith t .ok (viewBytes t)

/-! ## The commands of starting and stopping -/

/-- START_TIMER_EXPIRY (R147). -/
def execStartTimerExpiry (x : Side) (s : State) : Host.Outcome State Fault Refusal :=
  event s fun s =>
    if due (s.side x).sup.startTimer s.now then
      settle (raise x .startTimeout (s.onSide x fun d => { d with sup := { d.sup with startTimer := none } }))
    else s

/-- START_VIEW (R143). -/
def execStartView (tag : Byte) (payload : List Byte) (s : State) : Host.Outcome State Fault Refusal :=
  event s (serve .startView tag payload (ownStartView payload))

/-- STOP_VIEW (R148). -/
def execStopView (tag : Byte) (payload : List Byte) (s : State) : Host.Outcome State Fault Refusal :=
  event s (serve .stopView tag payload (ownStopView payload))

end Sys2Proof.Machine
end

