-- ==== Sys2Proof/Machine/Profile.lean ====
section
/-! DEFINITION. Profiles and the factory calibration (sections 8.5, 11.4, 11.5, 12.5): forming and reading the bytes
of a profile, correcting and applying its settings, the calibration read, and RESTORE_VIEW. -/

namespace Sys2Proof.Machine

/-! ## What a profile holds (R195) -/

/-- The settings of one side in a profile, windows already doubled; the budget in milliseconds, the start timeout in
units of 100 ms. -/
structure SideProfile where
  main : Window
  wide : Window
  curb : Window
  axle : Window
  maneuver : Window
  panGain : Nat
  key : Nat
  table : List Nat
  glare : GlareSettings
  limits : ExposureLimits
  repeatLimit : Nat
  budget : Nat
  timeout : Nat
  deriving DecidableEq, Repr

/-- The settings a profile holds. -/
structure Profile where
  left : SideProfile
  right : SideProfile
  thresholds : Thresholds
  deriving DecidableEq, Repr

/-! ## Reading the bytes (R207) -/

/-- A stored window: 40 bits, four halves of 10 bits; doubled (R197). -/
def storedWindow (bytes : List Byte) (offset : Nat) : Window :=
  let v := uField bytes offset 5
  ⟨2 * (v % 1024), 2 * (v / 1024 % 1024), 2 * (v / 1048576 % 1024), 2 * (v / 1073741824 % 1024)⟩

/-- A tone table rebuilt from its first entry and its steps (R195). -/
def rebuildTable (first : Nat) : List Nat → List Nat
  | [] => [first]
  | step :: steps => first :: rebuildTable (first + step) steps

/-- The 123 bytes of a side's settings (R207). -/
def readSideProfile (b : List Byte) : SideProfile :=
  { main := storedWindow b 0, wide := storedWindow b 5, curb := storedWindow b 10, axle := storedWindow b 15,
    maneuver := storedWindow b 20,
    panGain := uField b 25 1,
    key := uField b 26 2,
    table := rebuildTable (uField b 28 2) ((List.range 64).map fun i => uField b (30 + i) 1),
    glare := ⟨uField b 94 3, uField b 97 2, uField b 99 1, uField b 100 3, uField b 103 2, uField b 105 2,
              uField b 107 2⟩,
    limits := ⟨uField b 109 2, uField b 111 2, uField b 113 3, uField b 116 2, uField b 118 2⟩,
    repeatLimit := uField b 120 1,
    budget := uField b 121 1,
    timeout := uField b 122 1 }

/-- The settings that 256 profile bytes hold (R207). -/
def readProfile (b : List Byte) : Profile :=
  { left := readSideProfile (field b 2 123),
    right := readSideProfile (field b 125 123),
    thresholds := ⟨uField b 248 2, uField b 250 2, uField b 252 1, uField b 253 1⟩ }

/-- Whether profile bytes are damaged as profile n (R197). -/
def profileDamaged (n : Nat) (b : List Byte) : Bool :=
  crc16 (b.take 254) != BitVec.ofNat 16 (uField b 254 2) || uField b 0 1 != 1 || uField b 1 1 != n

/-- The 256 bytes of profile n in the store. -/
def profileCells (n : Nat) (cells : List Host.Cell) : List Byte :=
  readCells cells (cellAddress (8 + 2 * n) 0) 256

/-! ## Forming the bytes (R195, R196) -/

/-- A window as stored. -/
def windowToStore (w : Window) : List Byte :=
  le 5 (w.x / 2 + w.y / 2 * 1024 + w.w / 2 * 1048576 + w.h / 2 * 1073741824)

/-- The steps of a tone table, each rise at most 255 (R195). -/
def toneSteps (stored : Nat) : List Nat → List Nat
  | [] => []
  | t :: ts => (min t (stored + 255) - stored) :: toneSteps (min t (stored + 255)) ts

/-- The 123 bytes of the settings in force on a side (R207). -/
def sideProfileBytes (d : SideState) : List Byte :=
  windowToStore d.geometry.baseMain ++ windowToStore d.geometry.baseWide ++ windowToStore d.geometry.curb ++
    windowToStore d.geometry.axle ++ windowToStore d.geometry.maneuver ++
    le 1 d.geometry.panGain ++ le 2 d.tone.key ++ le 2 (d.tone.table.headD 0) ++
    (toneSteps (d.tone.table.headD 0) d.tone.table.tail).flatMap (le 1) ++
    le 3 d.glare.settings.level ++ le 2 d.glare.settings.minHot ++ le 1 d.glare.settings.cap ++
    le 3 d.glare.settings.ceiling ++ le 2 d.glare.settings.floor ++ le 2 d.glare.settings.rampDown ++
    le 2 d.glare.settings.rampUp ++
    le 2 d.exposure.limits.emin ++ le 2 d.exposure.limits.emax ++ le 3 d.exposure.limits.target ++
    le 2 d.exposure.limits.eOn ++ le 2 d.exposure.limits.eOff ++
    le 1 d.display.repeatLimit ++ le 1 (d.display.latencyBudget / 1000) ++ le 1 (d.sup.startTimeout / 100)

/-- The 254 bytes of profile n before its CRC. -/
def profileBody (n : Nat) (s : State) : List Byte :=
  le 1 1 ++ le 1 n ++ sideProfileBytes s.left ++ sideProfileBytes s.right ++
    le 2 s.health.thresholds.supplyLow ++ le 2 s.health.thresholds.supplyCrit ++
    leInt 1 s.health.thresholds.tempHigh ++ leInt 1 s.health.thresholds.tempCrit

/-- The 256 bytes of profile n formed from the settings in force (R196). -/
def profileBytes (n : Nat) (s : State) : List Byte :=
  profileBody n s ++ le 2 (crc16 (profileBody n s)).toNat

/-! ## Correcting and applying (R96, R92, R73, R47, R119, R141, R165, R197) -/

/-- A profile window brought into the active area (R96). -/
def areaWindow (w : Window) : Window :=
  clampWindow fullArea (evenWindow w)

/-- The settings of a side brought into range, its base windows into the bounds too (R96). -/
def correctSide (bounds : Window) (p : SideProfile) : SideProfile :=
  { main := clampWindow bounds (areaWindow p.main),
    wide := clampWindow bounds (areaWindow p.wide),
    curb := areaWindow p.curb,
    axle := areaWindow p.axle,
    maneuver := areaWindow p.maneuver,
    panGain := clampNat 0 64 p.panGain,
    key := correctKey p.key,
    table := correctTable p.table,
    glare := clampGlare p.glare,
    limits := correctLimits p.limits,
    repeatLimit := clampNat 1 15 p.repeatLimit,
    budget := clampNat 20 200 p.budget,
    timeout := clampNat 1 50 p.timeout }

/-- The thresholds clamped and then corrected against one another (R165). -/
def correctThresholds (t : Thresholds) : Thresholds :=
  let low := clampNat 2600 3400 t.supplyLow
  let crit := clampNat 2500 3300 t.supplyCrit
  let high := clampInt 70 130 t.tempHigh
  let tcrit := clampInt 80 140 t.tempCrit
  { supplyLow := low,
    supplyCrit := if low ≤ crit then low - 1 else crit,
    tempHigh := high,
    tempCrit := if tcrit ≤ high then high + 1 else tcrit }

/-- A profile brought into range for the bounds of both sides. -/
def correctProfile (s : State) (p : Profile) : Profile :=
  { left := correctSide s.left.geometry.bounds p.left,
    right := correctSide s.right.geometry.bounds p.right,
    thresholds := correctThresholds p.thresholds }

/-- Corrected settings of a side put in force, the windows in force resolved (R96, R197). -/
def applySide (x : Side) (p : SideProfile) (d : SideState) : SideState :=
  { d with
    geometry := resolve x { d.geometry with
      baseMain := p.main, baseWide := p.wide, curb := p.curb, axle := p.axle, maneuver := p.maneuver,
      panGain := p.panGain },
    tone := { d.tone with key := p.key, table := p.table },
    glare := { d.glare with settings := p.glare },
    exposure := { d.exposure with limits := p.limits },
    display := { d.display with repeatLimit := p.repeatLimit, latencyBudget := 1000 * p.budget },
    sup := { d.sup with startTimeout := 100 * p.timeout } }

/-- A corrected profile put in force on both sides and the device. -/
def applyProfile (p : Profile) (s : State) : State :=
  { s with
    left := applySide .left p.left s.left,
    right := applySide .right p.right s.right,
    health := { s.health with thresholds := p.thresholds } }

/-- The owning rule of LOAD_PROFILE (R197). R197 gives BAD_VALUE and STORE_BUSY without an order; that BAD_VALUE is
checked first is the model's choice (DESIGN CHOICE, log 34). -/
def ownLoadProfile (p : List Byte) (s : State) : Answer :=
  let n := uField p 0 1
  if 3 < n then answer s .badValue
  else if s.store.operation.isSome then answer s .storeBusy
  else
    let bytes := profileCells n s.store.cells
    if profileDamaged n bytes then answer s .damaged
    else
      let corrected := correctProfile s (readProfile bytes)
      answer (applyProfile corrected s) (okOrClamped (corrected != readProfile bytes))

/-- The owning rule of SAVE_PROFILE (R196). -/
def ownSaveProfile (p : List Byte) (s : State) : Answer :=
  let n := uField p 0 1
  if 3 < n then answer s .badValue
  else
    modify (blockProtected s.store (8 + 2 * n) || blockProtected s.store (9 + 2 * n))
      (.save n (profileBytes n s) 1) s

/-- The settings of a side at their defaults, windows equal to the bounds (R96, R199). -/
def defaultSide (bounds : Window) : SideProfile :=
  { main := bounds, wide := bounds, curb := bounds, axle := bounds, maneuver := bounds, panGain := 12, key := 256,
    table := defaultToneTable, glare := defaultGlare, limits := defaultLimits, repeatLimit := 3, budget := 50,
    timeout := 20 }

/-- Every setting that a profile holds at its default (R199). -/
def defaultProfile (s : State) : Profile :=
  ⟨defaultSide s.left.geometry.bounds, defaultSide s.right.geometry.bounds, defaultThresholds⟩

/-- The settings that the init completion puts in force: profile 0, or the defaults if it is damaged (R199). -/
def initProfile (s : State) : Profile :=
  let bytes := profileCells 0 s.store.cells
  if profileDamaged 0 bytes then defaultProfile s else correctProfile s (readProfile bytes)

/-- A side after the load at INIT: E_cmd becomes Emin (R42), the displayed windows the windows in force (R93, log 17). -/
def settleSide (d : SideState) : SideState :=
  { d with
    exposure := { d.exposure with commanded := d.exposure.limits.emin },
    geometry := { d.geometry with mainShown := d.geometry.mainInForce, wideShown := d.geometry.wideInForce } }

/-- Profile 0 loaded at the init completion (R199). -/
def loadInitProfile (s : State) : State :=
  let t := applyProfile (initProfile s) s
  { t with left := settleSide t.left, right := settleSide t.right }

/-! ## The factory calibration (R94, R199, R207) -/

/-- The 1,024 bytes of blocks 0 to 7. -/
def calibrationCells (cells : List Host.Cell) : List Byte :=
  readCells cells 0 1024

/-- Whether the CRC of the factory calibration checks (R199). -/
def calibrationGood (b : List Byte) : Bool :=
  crc16 (b.take 1022) == BitVec.ofNat 16 (uField b 1022 2)

/-- Bounds at an offset of the calibration, even and inside the active area (R94). -/
def storedBounds (b : List Byte) (offset : Nat) : Window :=
  areaWindow ⟨uField b offset 2, uField b (offset + 2) 2, uField b (offset + 4) 2, uField b (offset + 6) 2⟩

/-- A marker row; above 1,079 it is absent (R94). -/
def storedMarker (b : List Byte) (offset : Nat) : Option Nat :=
  if uField b offset 2 ≤ 1079 then some (uField b offset 2) else none

/-- The three marker rows at an offset of the calibration. -/
def storedMarkers (b : List Byte) (offset : Nat) : List (Option Nat) :=
  [storedMarker b offset, storedMarker b (offset + 2), storedMarker b (offset + 4)]

/-- Bounds and marker rows of a side set (R94). -/
def boundSide (x : Side) (b : Window) (markers : List (Option Nat)) (s : State) : State :=
  s.onSide x fun d => { d with geometry := setBounds x b markers d.geometry }

/-- The part code of IDENTIFY set (R180). -/
def keepPartCode (v : Word16) (s : State) : State :=
  { s with link := { s.link with partCode := v } }

/-- A calibration whose CRC checks, taken (R94, R199). -/
def takeCalibration (b : List Byte) (s : State) : State :=
  keepPartCode (BitVec.ofNat 16 (uField b 0 2))
    (boundSide .right (storedBounds b 16) (storedMarkers b 24)
      (boundSide .left (storedBounds b 2) (storedMarkers b 10) s))

/-- A calibration whose CRC fails: full active area, no marker rows, part code 0 (R94, R180, R199). -/
def refuseCalibration (s : State) : State :=
  keepPartCode 0
    (boundSide .right fullArea [none, none, none] (boundSide .left fullArea [none, none, none] s))

/-- The read of the factory calibration at the init completion (R154, R199). -/
def initCalibration (s : State) : State :=
  let b := calibrationCells s.store.cells
  if calibrationGood b then takeCalibration b s else refuseCalibration (raisePart .calibrationDamaged s)

/-! ## RESTORE_VIEW (R152, R155) -/

/-- Whether a selector names a kind: 0 names every kind. -/
def selects (selector : Nat) (k : FaultKind) : Bool :=
  selector == 0 || selector == kindNumber k

/-- A HELD kind that the selector names removed from the set of a side (R152). -/
def restoreKind (x : Side) (selector : Nat) (s : State) (k : FaultKind) : State :=
  if selects selector k && (s.faults x).get k == .held then
    (s.setFault x k .absent).hand ⟨k, .cleared, recordScope k x, .restored⟩
  else s

/-- Every HELD kind that the selector names removed from the set of a side. -/
def restoreSide (selector : Nat) (s : State) (x : Side) : State :=
  allKinds.foldl (restoreKind x selector) s

/-- CALIBRATION_DAMAGED removed from both sets, with the restored flag (R155). -/
def removeDamaged (s : State) : State :=
  ((s.setFault .left .calibrationDamaged .absent).setFault .right .calibrationDamaged .absent).hand
    ⟨.calibrationDamaged, .cleared, .device, .restored⟩

/-- The re-read of the factory calibration (R155). -/
def reread (s : State) : State :=
  let b := calibrationCells s.store.cells
  if calibrationGood b then takeCalibration b (removeDamaged s) else refuseCalibration s

/-- The re-read made where the selector names CALIBRATION_DAMAGED, a named set holds it, and no store operation is in
flight (R155). -/
def rereadIfNamed (selector : Nat) (sides : List Side) (s : State) : State :=
  if selects selector .calibrationDamaged && sides.any (fun x => (s.faults x).stands .calibrationDamaged) &&
      s.store.operation.isNone then reread s else s

/-- A member of a set as a reply carries it (R203). -/
def memberBytes (f : FaultSet) (k : FaultKind) : List Byte :=
  le 1 (kindNumber k) ++ le 1 (if f.get k = .held then 1 else 0)

/-- A side in the reply of RESTORE_VIEW: its view state and every kind that remains (R152). -/
def restoreBytes (s : State) (x : Side) : List Byte :=
  le 1 (viewCode (s.side x).sup.view) ++ le 1 (s.faults x).standing.length ++
    (s.faults x).standing.flatMap (memberBytes (s.faults x))

/-- The owning rule of RESTORE_VIEW (R152, R155). -/
def ownRestoreView (p : List Byte) (s : State) : Answer :=
  match namedSides (uField p 0 1), decide (uField p 1 1 ≤ 18) with
  | some sides, true =>
    let t := settle (rereadIfNamed (uField p 1 1) sides (sides.foldl (restoreSide (uField p 1 1)) s))
    answerWith t .ok (sides.flatMap (restoreBytes t))
  | _, _ => answer s .badValue

/-! ## The commands of profiles and of restoring -/

/-- LOAD_PROFILE (R197). -/
def execLoadProfile (tag : Byte) (payload : List Byte) (s : State) : Host.Outcome State Fault Refusal :=
  event s (serve .loadProfile tag payload (ownLoadProfile payload))

/-- SAVE_PROFILE (R196). -/
def execSaveProfile (tag : Byte) (payload : List Byte) (s : State) : Host.Outcome State Fault Refusal :=
  event s (serve .saveProfile tag payload (ownSaveProfile payload))

/-- RESTORE_VIEW (R152). -/
def execRestoreView (tag : Byte) (payload : List Byte) (s : State) : Host.Outcome State Fault Refusal :=
  event s (serve .restoreView tag payload (ownRestoreView payload))

end Sys2Proof.Machine
end

