-- ==== Sys2Proof/Machine/PartStates.lean ====
section
/-! DEFINITION. The part states (sections 10.3 to 10.5): power-on, the init completion, standby, wake and reset; STATUS
and IDENTIFY; and the close of a request window with any bytes. -/

namespace Sys2Proof.Machine

/-! ## Power-on and the init completion (R177, R184) -/

/-- Power-on: the reset of R184 with no deferral and an empty reply slot. A link window that was open is dropped, so its
close is that of a window opened at the close (DESIGN CHOICE, unsafe: log 35). -/
def powerOn (s : State) : State :=
  let t := volatileReset s
  { t with powered := true, link := { t.link with window := none } }

/-- STREAM_OFF given to both channels (R29, R177). -/
def streamOffBoth (s : State) : State :=
  submit .right .streamOff (submit .left .streamOff s)

/-- The level of the wake line as the part last learned it. -/
def setWakeLine (level : Bool) (s : State) : State :=
  { s with link := { s.link with wakeLine := level } }

/-- The part state changed. -/
def setPart (p : PartState) (s : State) : State :=
  { s with link := { s.link with part := p } }

/-- The init completion (R177). -/
def initCompleted (wakeHigh : Bool) (s : State) : State :=
  let s := setWakeLine wakeHigh { s with link := { s.link with initTimer := none } }
  let s := setPart .active (loadInitProfile (initCalibration s))
  settle (if wakeHigh then startBoth s else streamOffBoth s)

/-! ## Standby and wake (R181 to R183) -/

/-- A side stopped for STANDBY: the stop of a running side, STREAM_OFF alone for a side that is OFF (R29, R151). -/
def standbySide (s : State) (x : Side) : State :=
  if (s.side x).sup.view = .off then submit x .streamOff s else stopSide s x

/-- The owning rule of STANDBY (R181). -/
def ownStandby (s : State) : Answer :=
  answer (settle (setPart .quiescing (standbySide (standbySide s .left) .right))) .ok

/-- A pending wake set. -/
def setWake (w : Wake) (s : State) : State :=
  { s with link := { s.link with pendingWake := some w } }

/-- The wake timer armed to expire 2,000 µs from now. -/
def armWakeTimer (s : State) : State :=
  { s with link := { s.link with wakeTimer := some (after s.now 2000) } }

/-- The effect of WAKE by the part state (R182). -/
def wakeRequested (s : State) : State :=
  match s.link.part with
  | .init => s
  | .active => s
  | .quiescing => if s.link.pendingWake.isNone then setWake .request s else s
  | .standby => if s.link.wakeTimer.isNone then armWakeTimer (setWake .request s) else s

/-- The owning rule of WAKE (R182). -/
def ownWake (s : State) : Answer :=
  answer (wakeRequested s) .ok

/-- The wake timer's expiry (R182). -/
def wakeExpired (s : State) : State :=
  let wake := s.link.pendingWake
  let s := { s with link := { s.link with part := .active, wakeTimer := none, pendingWake := none } }
  if wake = some .line then startBoth s else s

/-- The effect of a rising wake line edge by the part state (R183). -/
def wakeEdge (s : State) : State :=
  match s.link.part with
  | .init => s
  | .active => startIfOff (startIfOff s .left) .right
  | .quiescing => setWake .line s
  | .standby => if s.link.wakeTimer.isNone then armWakeTimer (setWake .line s) else setWake .line s

/-- A rising edge of the wake line; while a reset is pending it has no effect on the part (R183, R184). -/
def wakeLineRises (s : State) : State :=
  let s := setWakeLine true s
  if s.link.resetPending.isSome then s else wakeEdge s

/-! ## RESET (R184) -/

/-- The owning rule of RESET: made at once, or left pending for the store operation in flight. -/
def ownReset (tag : Byte) (s : State) : Answer :=
  if s.store.operation.isSome then ⟨{ s with link := { s.link with resetPending := some tag } }, none⟩
  else answer (volatileReset s) .ok

/-! ## STATUS and IDENTIFY (R179, R180) -/

/-- The store state code: idle, or the kind of the operation in flight (R203). -/
def storeStateCode (st : Store) : Nat :=
  match st.operation with
  | none => 0
  | some o =>
    match o.work with
    | .write _ _ _ => kindCode .storeWrite
    | .erase _ => kindCode .storeErase
    | .lock => kindCode .storeLockFactory
    | .save _ _ _ => kindCode .saveProfile

/-- A side in the reply of STATUS. -/
def sideStatusBytes (d : SideState) : List Byte :=
  le 1 (viewCode d.sup.view) ++ le 1 (overrideBits d.geometry.overrides) ++ le 1 (nightCode d.exposure.night)

/-- The reply payload of STATUS (R179). -/
def statusBytes (s : State) : List Byte :=
  le 1 (partCodeOf s.link.part) ++ [flagByte s.link.resetPending.isSome] ++ le 1 (wakeCode s.link.pendingWake) ++
    sideStatusBytes s.left ++ sideStatusBytes s.right ++ le 1 s.reports.records.length ++ le 1 s.reports.missed ++
    le 1 (storeStateCode s.store) ++ [if s.store.completedOk then 0x00 else 0xFF]

/-- The owning rule of STATUS. -/
def ownStatus (s : State) : Answer :=
  answerWith s .ok (statusBytes s)

/-- The reply payload of IDENTIFY (R180). -/
def identifyBytes (s : State) : List Byte :=
  le 2 0x0620 ++ le 1 1 ++ le 1 1 ++ le 2 s.link.partCode.toNat ++ le 4 s.link.frames ++ le 4 s.link.badFrames ++
    le 4 s.link.lostReplies

/-- The owning rule of IDENTIFY. -/
def ownIdentify (s : State) : Answer :=
  answerWith s .ok (identifyBytes s)

/-! ## A request window with any bytes (R173, R174) -/

/-- What the bytes after 0xA5 are: a frame that fails the framing, with the kind and tag received, or a frame. -/
inductive FrameBytes where
  | bad (kind : Nat) (tag : Byte)
  | good (kind : Nat) (tag : Byte) (payload : List Byte)
  deriving DecidableEq, Repr

/-- The framing of R173. -/
def readFrame (bytes : List Byte) : FrameBytes :=
  let kind := uField bytes 0 1
  let tag := bytes.getD 1 0
  let length := uField bytes 2 1
  if bytes.length < 3 ∨ 248 < length ∨ bytes.length ≠ length + 5 then .bad kind tag
  else if crc16 (bytes.take (length + 3)) ≠ BitVec.ofNat 16 (uField bytes (length + 3) 2) then .bad kind tag
  else .good kind tag ((bytes.drop 3).take length)

/-- The owning rule of each request. -/
def ownerOf (k : RequestKind) (tag : Byte) (p : List Byte) : State → Answer :=
  match k with
  | .status => ownStatus
  | .identify => ownIdentify
  | .startView => ownStartView p
  | .stopView => ownStopView p
  | .setTiming => ownSetTiming p
  | .vehicleState => ownVehicleState p
  | .adjustView => ownAdjustView p
  | .inspect => ownInspect p
  | .endInspect => ownEndInspect p
  | .setGlare => ownSetGlare p
  | .setTone => ownSetTone p
  | .setExposureLimits => ownSetExposureLimits p
  | .readGlare => ownReadGlare p
  | .fetchReports => ownFetchReports p
  | .readHealth => ownReadHealth
  | .readCounters => ownReadCounters p
  | .restoreView => ownRestoreView p
  | .storeUnlock => ownStoreUnlock
  | .storeRead => ownStoreRead p
  | .storeWrite => ownStoreWrite p
  | .storeErase => ownStoreErase p
  | .storeProtect => ownStoreProtect p
  | .storeLockFactory => ownStoreLockFactory
  | .loadProfile => ownLoadProfile p
  | .saveProfile => ownSaveProfile p
  | .standby => ownStandby
  | .wake => ownWake
  | .reset => ownReset tag

/-- A counted request window: refused with BAD_FRAME or UNKNOWN_KIND, or taken as the request it is. -/
def takeBytes (bytes : List Byte) (s : State) : State :=
  match readFrame bytes with
  | .bad kind tag => refuseBadFrame kind tag s
  | .good kind tag payload =>
    match kindOfCode kind with
    | none => refuse kind tag .unknownKind s
    | some k => takeFrame k tag payload (ownerOf k tag payload) s

/-- The close of a request window (R173); a window in which a reset was made is closed as a poll (R184). -/
def requestClosed (bytes : List Byte) (s : State) : State :=
  let t := closeWindow (bytes.length + 1) [] s
  if (closingWindow s).spannedReset then t else takeBytes bytes (countFrame t)

/-! ## The commands of the part states -/

/-- POWER_ON (R177, R184): the one command a part without power takes. -/
def execPowerOn (s : State) : Host.Outcome State Fault Refusal :=
  .next (powerOn s.beginEvent)

/-- INIT_COMPLETION (R177). -/
def execInitCompletion (wakeHigh : Bool) (s : State) : Host.Outcome State Fault Refusal :=
  event s fun s => if due s.link.initTimer s.now then initCompleted wakeHigh s else s

/-- WAKE_TIMER_EXPIRY (R182). -/
def execWakeTimerExpiry (s : State) : Host.Outcome State Fault Refusal :=
  event s fun s => if due s.link.wakeTimer s.now then wakeExpired s else s

/-- WAKE_LINE_RISING_EDGE (R183). -/
def execWakeLineRisingEdge (s : State) : Host.Outcome State Fault Refusal :=
  event s wakeLineRises

/-- REQUEST_WINDOW_CLOSE (R173). -/
def execRequestWindowClose (bytes : List Byte) (s : State) : Host.Outcome State Fault Refusal :=
  event s (requestClosed bytes)

/-- STATUS (R179). -/
def execStatus (tag : Byte) (payload : List Byte) (s : State) : Host.Outcome State Fault Refusal :=
  event s (serve .status tag payload ownStatus)

/-- IDENTIFY (R180). -/
def execIdentify (tag : Byte) (payload : List Byte) (s : State) : Host.Outcome State Fault Refusal :=
  event s (serve .identify tag payload ownIdentify)

/-- STANDBY (R181). -/
def execStandby (tag : Byte) (payload : List Byte) (s : State) : Host.Outcome State Fault Refusal :=
  event s (serve .standby tag payload ownStandby)

/-- WAKE (R182). -/
def execWake (tag : Byte) (payload : List Byte) (s : State) : Host.Outcome State Fault Refusal :=
  event s (serve .wake tag payload ownWake)

/-- RESET (R184). -/
def execReset (tag : Byte) (payload : List Byte) (s : State) : Host.Outcome State Fault Refusal :=
  event s (serve .reset tag payload (ownReset tag))

end Sys2Proof.Machine
end

