-- ==== Sys2Proof/Machine/Clock.lean ====
section
/-! DEFINITION. What the part does with no command waiting (log 1, log 2): the event of its own that is due, if there
is one, else one microsecond passes (R1). -/

namespace Sys2Proof.Machine

/-- One microsecond of part time (R1). -/
def tick (s : State) : State :=
  { s.beginEvent with now := s.now + 1 }

/-- A command if its condition holds. -/
def offer (holds : Bool) (c : Instr) : List Instr :=
  if holds then [c] else []

/-- The events of a side that are due. -/
def sideDue (x : Side) (s : State) : List Instr :=
  let d := s.side x
  offer (due d.channel.timer s.now) (.transactionTimerExpiry x) ++
    offer (due d.port.linkLost s.now) (.linkLostTimerExpiry x) ++
    offer (d.cam.due s.now) (.camTriggerExpiry x) ++
    offer (d.vsync.due s.now) (.vsyncExpiry x) ++
    offer (due d.display.echoTimer s.now) (.echoTimerExpiry x) ++
    offer (due d.display.idleTimer s.now) (.echoIdleTimerExpiry x) ++
    offer (due d.sup.startTimer s.now) (.startTimerExpiry x) ++
    offer (due d.geometry.inspectTimer s.now) (.inspectDurationExpiry x) ++
    offer (!d.exposure.waiting.isEmpty) (.exposureCompletionTaken x) ++
    offer (!d.glare.waiting.isEmpty) (.glareCompletionTaken x)

/-- The events of the part as a whole that are due. -/
def partDue (s : State) : List Instr :=
  offer (due s.link.initTimer s.now) (.initCompletion s.link.wakeLine) ++
    offer (due s.link.wakeTimer s.now) .wakeTimerExpiry ++
    offer (sampleDue s) (ownSample s) ++
    offer (due s.signals.speedStatus.timer s.now) (.freshnessTimerExpiry .speed) ++
    offer (due s.signals.reverseStatus.timer s.now) (.freshnessTimerExpiry .reverse) ++
    offer (due s.signals.angleStatus.timer s.now) (.freshnessTimerExpiry .angle) ++
    (match s.store.operation with
      | none => []
      | some o =>
        offer (due (some o.expiry) s.now)
          (if lastPhase o.work then .storeOperationCompletion else .saveProfilePhaseExpiry))

/-- The events of its own that are due, in the order in which the model takes them (DESIGN CHOICE, log 2). -/
def dueEvents (s : State) : List Instr :=
  if s.powered then partDue s ++ sideDue .left s ++ sideDue .right s else []

end Sys2Proof.Machine
end

