-- ==== Sys2Proof/Machine/Dispatch.lean ====
section
/-! DEFINITION. The meaning of every command: one arm for each constructor of Instr. -/

namespace Sys2Proof.Machine

def exec (i : Instr) (s : State) : Host.Outcome State Fault Refusal :=
  match i with
  | .powerOn => Sys2Proof.Machine.execPowerOn s
  | .powerLoss => Sys2Proof.Machine.execPowerLoss s
  | .initCompletion wakeHigh => Sys2Proof.Machine.execInitCompletion wakeHigh s
  | .vsyncExpiry x => Sys2Proof.Machine.execVsyncExpiry x s
  | .camTriggerExpiry x => Sys2Proof.Machine.execCamTriggerExpiry x s
  | .frameStartArrival x number exposure length => Sys2Proof.Machine.execFrameStartArrival x number exposure length s
  | .lineArrival x bytes => Sys2Proof.Machine.execLineArrival x bytes s
  | .frameEndArrival x => Sys2Proof.Machine.execFrameEndArrival x s
  | .linkLostTimerExpiry x => Sys2Proof.Machine.execLinkLostTimerExpiry x s
  | .exposureCompletionTaken x => Sys2Proof.Machine.execExposureCompletionTaken x s
  | .glareCompletionTaken x => Sys2Proof.Machine.execGlareCompletionTaken x s
  | .dispatch x => Sys2Proof.Machine.execDispatch x s
  | .ackArrival x answer attempt => Sys2Proof.Machine.execAckArrival x answer attempt s
  | .nackArrival x answer attempt => Sys2Proof.Machine.execNackArrival x answer attempt s
  | .transactionTimerExpiry x => Sys2Proof.Machine.execTransactionTimerExpiry x s
  | .echoArrival x code number crc => Sys2Proof.Machine.execEchoArrival x code number crc s
  | .echoTimerExpiry x => Sys2Proof.Machine.execEchoTimerExpiry x s
  | .echoIdleTimerExpiry x => Sys2Proof.Machine.execEchoIdleTimerExpiry x s
  | .startTimerExpiry x => Sys2Proof.Machine.execStartTimerExpiry x s
  | .freshnessTimerExpiry sig => Sys2Proof.Machine.execFreshnessTimerExpiry sig s
  | .inspectDurationExpiry x => Sys2Proof.Machine.execInspectDurationExpiry x s
  | .wakeTimerExpiry => Sys2Proof.Machine.execWakeTimerExpiry s
  | .wakeLineRisingEdge => Sys2Proof.Machine.execWakeLineRisingEdge s
  | .sample supply temperature => Sys2Proof.Machine.execSample supply temperature s
  | .saveProfilePhaseExpiry => Sys2Proof.Machine.execSaveProfilePhaseExpiry s
  | .storeOperationCompletion => Sys2Proof.Machine.execStoreOperationCompletion s
  | .deferredReset => Sys2Proof.Machine.execDeferredReset s
  | .enterStandby => Sys2Proof.Machine.execEnterStandby s
  | .chipSelectFalling => Sys2Proof.Machine.execChipSelectFalling s
  | .collectWindow clocked => Sys2Proof.Machine.execCollectWindow clocked s
  | .pollWindow bytes => Sys2Proof.Machine.execPollWindow bytes s
  | .requestWindowClose bytes => Sys2Proof.Machine.execRequestWindowClose bytes s
  | .status tag payload => Sys2Proof.Machine.execStatus tag payload s
  | .identify tag payload => Sys2Proof.Machine.execIdentify tag payload s
  | .startView tag payload => Sys2Proof.Machine.execStartView tag payload s
  | .stopView tag payload => Sys2Proof.Machine.execStopView tag payload s
  | .setTiming tag payload => Sys2Proof.Machine.execSetTiming tag payload s
  | .vehicleState tag payload => Sys2Proof.Machine.execVehicleState tag payload s
  | .adjustView tag payload => Sys2Proof.Machine.execAdjustView tag payload s
  | .inspect tag payload => Sys2Proof.Machine.execInspect tag payload s
  | .endInspect tag payload => Sys2Proof.Machine.execEndInspect tag payload s
  | .setGlare tag payload => Sys2Proof.Machine.execSetGlare tag payload s
  | .setTone tag payload => Sys2Proof.Machine.execSetTone tag payload s
  | .setExposureLimits tag payload => Sys2Proof.Machine.execSetExposureLimits tag payload s
  | .readGlare tag payload => Sys2Proof.Machine.execReadGlare tag payload s
  | .fetchReports tag payload => Sys2Proof.Machine.execFetchReports tag payload s
  | .readHealth tag payload => Sys2Proof.Machine.execReadHealth tag payload s
  | .readCounters tag payload => Sys2Proof.Machine.execReadCounters tag payload s
  | .restoreView tag payload => Sys2Proof.Machine.execRestoreView tag payload s
  | .storeUnlock tag payload => Sys2Proof.Machine.execStoreUnlock tag payload s
  | .storeRead tag payload => Sys2Proof.Machine.execStoreRead tag payload s
  | .storeWrite tag payload => Sys2Proof.Machine.execStoreWrite tag payload s
  | .storeErase tag payload => Sys2Proof.Machine.execStoreErase tag payload s
  | .storeProtect tag payload => Sys2Proof.Machine.execStoreProtect tag payload s
  | .storeLockFactory tag payload => Sys2Proof.Machine.execStoreLockFactory tag payload s
  | .loadProfile tag payload => Sys2Proof.Machine.execLoadProfile tag payload s
  | .saveProfile tag payload => Sys2Proof.Machine.execSaveProfile tag payload s
  | .standby tag payload => Sys2Proof.Machine.execStandby tag payload s
  | .wake tag payload => Sys2Proof.Machine.execWake tag payload s
  | .reset tag payload => Sys2Proof.Machine.execReset tag payload s
  | .echoRecordByteArrival x byte => Sys2Proof.Machine.execEchoRecordByteArrival x byte s

end Sys2Proof.Machine
end

