-- ==== Sys2Proof/Safety.lean ====
section
/-! DEFINITION. The vocabulary of the claims: a request as a command and what answering it does to the link, the
settings a profile saves, and the laws that the spec gives for every state the part reaches. -/

namespace Sys2Proof.Machine

/-! ## Requests as commands -/

/-- The command that a request frame of a kind is. -/
def request (k : RequestKind) (tag : Byte) (p : List Byte) : Instr :=
  match k with
  | .status => .status tag p
  | .identify => .identify tag p
  | .startView => .startView tag p
  | .stopView => .stopView tag p
  | .setTiming => .setTiming tag p
  | .vehicleState => .vehicleState tag p
  | .adjustView => .adjustView tag p
  | .inspect => .inspect tag p
  | .endInspect => .endInspect tag p
  | .setGlare => .setGlare tag p
  | .setTone => .setTone tag p
  | .setExposureLimits => .setExposureLimits tag p
  | .readGlare => .readGlare tag p
  | .fetchReports => .fetchReports tag p
  | .readHealth => .readHealth tag p
  | .readCounters => .readCounters tag p
  | .restoreView => .restoreView tag p
  | .storeUnlock => .storeUnlock tag p
  | .storeRead => .storeRead tag p
  | .storeWrite => .storeWrite tag p
  | .storeErase => .storeErase tag p
  | .storeProtect => .storeProtect tag p
  | .storeLockFactory => .storeLockFactory tag p
  | .loadProfile => .loadProfile tag p
  | .saveProfile => .saveProfile tag p
  | .standby => .standby tag p
  | .wake => .wake tag p
  | .reset => .reset tag p

/-- The bytes of a request frame after its first byte 0xA5 (R202). -/
def requestBytes (kind tag : Byte) (p : List Byte) : List Byte :=
  let body := [kind, tag, BitVec.ofNat 8 p.length] ++ p
  body ++ le 2 (crc16 body).toNat

/-- A request that reaches its owning rule: the part has power, no reset was made in the window, and the checks of
R173 and R174 pass. -/
structure Answerable (k : RequestKind) (p : List Byte) (s : State) : Prop where
  powered : s.powered = true
  window : (closingWindow s).spannedReset = false
  fits : p.length ≤ 248
  length : lengthRight k p = true
  inSet : inRequestSet s k = true

/-- A link on which a reply was placed (R175). -/
def placedLink (l : Link) (frame : List Byte) : Link :=
  { l with
    slot := some frame,
    lost := l.lost || l.slot.isSome,
    lostReplies := if l.slot.isSome then satInc l.lostReplies else l.lostReplies }

/-- A link on which a request window closed with a counted frame (R173). -/
def countedLink (l : Link) : Link :=
  { l with window := none, frames := satInc l.frames }

/-- What a request window of a payload of n bytes shifts out: the status byte, then 0x00 (R170). -/
def requestOutput (n : Nat) (s : State) : Output :=
  .shifted (windowOutput (closingWindow s) (n + 6) [])

/-- A state in which the window of a request of n payload bytes has closed and its frame is counted: what the owning
rule takes the request in. -/
def requestTaken (n : Nat) (s : State) : State :=
  { s with link := countedLink s.link, out := [requestOutput n s], handed := [] }

/-- A state whose request was answered with a result and a payload, where nothing else changed. -/
def answered (k : RequestKind) (tag : Byte) (n : Nat) (r : ResultCode) (payload : List Byte) (s : State) : State :=
  { s with
    link := placedLink (countedLink s.link) (replyFrame (kindCode k) tag r payload),
    out := [requestOutput n s],
    handed := [] }

/-- Whether a side code where 2 means both names a side. -/
def names (code : Nat) (x : Side) : Bool :=
  code == 2 || code == sideCode x

/-- An event of one side: the other side and every part-wide field are as before, but for what the event sends out,
hands on and reports. -/
def OneSide (x : Side) (s t : State) : Prop :=
  t = { s.setSide x (t.side x) with reports := t.reports, out := t.out, handed := t.handed }

/-- An event of one side that may also move the part state. -/
def OneSideAndLink (x : Side) (s t : State) : Prop :=
  t = { s.setSide x (t.side x) with reports := t.reports, out := t.out, handed := t.handed, link := t.link }

/-- The link after an event that may end QUIESCING (R181): STANDBY once both channels are quiet and no store operation
is in flight, with the wake timer armed if a wake is pending. -/
def restedLink (s t : State) : Link :=
  if s.link.part = .quiescing ∧ atRest t = true then
    { s.link with
      part := .standby,
      wakeTimer := if s.link.pendingWake.isSome then some (after s.now 2000) else s.link.wakeTimer }
  else s.link

/-- A set in which a check's raise of a kind was applied (R137). -/
def raisedIn (f : FaultSet) (k : FaultKind) : FaultSet :=
  f.set k .active

/-- A set in which the condition of a kind was told gone (R138): an ACTIVE kind leaves, or is HELD if LATCHED. -/
def goneIn (f : FaultSet) (k : FaultKind) : FaultSet :=
  if f.get k = .active then f.set k (if latched k then .held else .absent) else f

/-- The queue after an event: the records that its transitions form were offered to it in order, with the view states
after the event (R140, R156 to R159). -/
def Reported (s t : State) : Prop :=
  t.reports = (formRecords t.handed).foldl (storeRecord s.now t.left.sup.view t.right.sup.view) s.reports

/-- The transition, if any, by which a member of a set that an event changed is told (R137, R138, R152, R156): RAISED
where it became ACTIVE, CLEARED with the held flag where it became HELD, and CLEARED with the given flag class where it
left the set. -/
def memberChange (removed : FlagClass) (old new : Member) : Option (Direction × FlagClass) :=
  if old = new then none
  else
    match new with
    | .active => some (.raised, .plain)
    | .held => some (.cleared, .held)
    | .absent => some (.cleared, removed)

/-- What an event hands to the Report Queue (R140, R156): no transition twice, the transitions of kinds raised and
cleared within the event (R139, `brief`), and exactly one for each kind and side whose member of the set the event
changed, where a kind of scope both or device is told once, under DEVICE, for both sides. -/
def HandedOn (removed : FlagClass) (brief : List Transition) (s t : State) : Prop :=
  t.handed.Nodup ∧
    ∀ u : Transition, u ∈ t.handed ↔ u ∈ brief ∨
      ∃ x, u.scope = (if kindScope u.kind = .side then sideScope x else .device) ∧
        memberChange removed ((s.faults x).get u.kind) ((t.faults x).get u.kind) = some (u.direction, u.flag)

/-- The two transitions of a frame found malformed (R139). -/
def malformedBriefly (x : Side) : List Transition :=
  [⟨.frameMalformed, .raised, sideScope x, .plain⟩, ⟨.frameMalformed, .cleared, sideScope x, .plain⟩]

/-- The view state that a side has after an event that may have changed its set: its evaluated state, but for a side
that is OFF, and for one in STARTING without a kind of class BLANK (R142, R145, R150). -/
def ViewFollows (x : Side) (s t : State) : Prop :=
  (t.side x).sup.view =
    match (s.side x).sup.view with
    | .off => .off
    | .starting => if (t.faults x).holdsClass .blank then .blanked else .starting
    | _ => evaluated (t.faults x)

/-- The published map after an event that publishes only for a departure from NORMAL (R78). -/
def MapFollows (x : Side) (s t : State) : Prop :=
  (t.side x).gain =
    if (s.side x).sup.view = .normal ∧ (t.side x).sup.view ≠ .normal then ⟨unityGains, (s.side x).gain.version + 1⟩
    else (s.side x).gain

/-- A side after a start (R3, R9, R30, R36, R50, R112, R133, R144), with the channel as STREAM_ON leaves it. -/
def startedSide (x : Side) (s : State) (channel : Channel) : SideState :=
  let d := s.side x
  let p := s.timing.framePeriod
  let o : Overrides :=
    { inspect := none,
      maneuver := s.signals.reverseStatus.fresh && s.signals.reverse,
      turnFollow :=
        if s.signals.angleStatus.fresh ∧ 80 ≤ angleToward x s.signals.angle then
          some (min 480 (s.signals.angle.natAbs * d.geometry.panGain / 10))
        else none }
  let g := { d.geometry with overrides := o }
  { d with
    vsync := ⟨true, after s.now p, p⟩,
    cam := ⟨true, after s.now (p - s.timing.cameraLead % p), p⟩,
    port := ⟨none, none, none, 0, some (after s.now (2 * p))⟩,
    follower := ⟨false, 0, 0⟩,
    stats := ⟨none, none⟩,
    exposure := { d.exposure with night := .day, nightRun := 0 },
    geometry := { g with
      mainInForce := resolveMain x g, wideInForce := resolveWide g,
      mainShown := resolveMain x g, wideShown := resolveWide g },
    display := { d.display with
      begun := false, echoTimer := none, mismatchRun := 0, matchRun := 0, overRun := 0, withinRun := 0,
      received := [], idleTimer := none },
    sup := { d.sup with
      view := if (s.faults x).holdsClass .blank then .blanked else .starting,
      startTimer := some (after s.now (d.sup.startTimeout * 1000)) },
    channel := channel }

/-- A side after a stop (R19, R40, R50, R54, R71, R78, R90, R112, R116, R133, R149), with the set that is left and the
channel as STREAM_OFF leaves it. -/
def stoppedSide (x : Side) (s : State) (left : FaultSet) (channel : Channel) : SideState :=
  let d := s.side x
  let g := { d.geometry with overrides := ⟨none, false, none⟩, inspectTimer := none }
  { d with
    vsync := { d.vsync with armed := false },
    cam := { d.cam with armed := false },
    held := none,
    port := { d.port with frame := none, linkLost := none },
    stats := ⟨none, none⟩,
    exposure := { d.exposure with waiting := [] },
    glare := { d.glare with table := [], regions := [], formed := 0, kept := 0, waiting := [] },
    gain := if d.sup.view = .normal then ⟨unityGains, d.gain.version + 1⟩ else d.gain,
    tone := { d.tone with latched := none },
    geometry := { g with mainInForce := resolveMain x g, wideInForce := resolveWide g },
    ring := ⟨freeSlot, freeSlot, freeSlot⟩,
    display := { d.display with history := [], echoTimer := none, sending := none, received := [], idleTimer := none },
    sup := { d.sup with view := .off, startTimer := none, faults := left },
    channel := channel }

/-- The bounds that the bytes of the factory calibration give a side (R94, R207): even, and inside the active area. -/
def calibratedBounds (x : Side) (b : List Byte) : Window :=
  let o := match x with | .left => 2 | .right => 16
  clampWindow ⟨0, 0, 1920, 1080⟩
    ⟨uField b o 2 / 2 * 2, uField b (o + 2) 2 / 2 * 2, uField b (o + 4) 2 / 2 * 2, uField b (o + 6) 2 / 2 * 2⟩

/-- The three marker rows that the bytes of the factory calibration give a side (R94, R207). -/
def calibratedMarkers (x : Side) (b : List Byte) : List (Option Nat) :=
  let o := match x with | .left => 10 | .right => 24
  [o, o + 2, o + 4].map fun i => if 1079 < uField b i 2 then none else some (uField b i 2)

/-- A geometry with new bounds and marker rows (R94): the base and the displayed windows clamped into the bounds, and
the windows in force resolved. -/
def boundedGeometry (x : Side) (bounds : Window) (markers : List (Option Nat)) (g : Geometry) : Geometry :=
  resolve x { g with
    bounds := bounds, markers := markers,
    baseMain := clampWindow bounds g.baseMain, baseWide := clampWindow bounds g.baseWide,
    mainShown := clampWindow bounds g.mainShown, wideShown := clampWindow bounds g.wideShown }

/-- A side that is OFF with the settings of a profile in force as the init completion puts them (R42, R96, R199), its
displayed windows those in force (log 17). -/
def loadedSide (x : Side) (bounds : Window) (markers : List (Option Nat)) (p : SideProfile) (d : SideState) :
    SideState :=
  let g := { d.geometry with
    bounds := bounds, markers := markers, baseMain := p.main, baseWide := p.wide, curb := p.curb, axle := p.axle,
    maneuver := p.maneuver, panGain := p.panGain }
  { d with
    geometry := { g with
      mainInForce := resolveMain x g, wideInForce := resolveWide g,
      mainShown := resolveMain x g, wideShown := resolveWide g },
    tone := { d.tone with key := p.key, table := p.table },
    glare := { d.glare with settings := p.glare },
    exposure := { d.exposure with limits := p.limits, commanded := p.limits.emin },
    display := { d.display with repeatLimit := p.repeatLimit, latencyBudget := 1000 * p.budget },
    sup := { d.sup with startTimeout := 100 * p.timeout } }

/-- What the byte at an address becomes when the phase in progress of an operation is done (R185, R190, R191, R196):
an erased byte is 0xFF, and a written one the AND of its value and the data byte that falls on it. -/
def phaseByte (w : StoreWork) (a : Nat) (old : Byte) : Byte :=
  let written (block offset : Nat) (data : List Byte) : Byte :=
    if a / 128 = block then old &&& data.getD ((a + 128 - offset) % 128) 0xFF else old
  let erased (block : Nat) : Byte := if a / 128 = block then 0xFF else old
  match w with
  | .write block offset data => written block offset data
  | .erase block => erased block
  | .lock => old
  | .save n bytes phase =>
    if phase = 1 then erased (8 + 2 * n)
    else if phase = 2 then erased (9 + 2 * n)
    else if phase = 3 then written (8 + 2 * n) 0 (bytes.take 128)
    else written (9 + 2 * n) 0 (bytes.drop 128)

/-! ## The settings of a profile (R195) -/

/-- The settings in force of a side that a profile holds, in the units in which a profile stores them. -/
def sideSettings (d : SideState) : SideProfile :=
  { main := d.geometry.baseMain, wide := d.geometry.baseWide, curb := d.geometry.curb, axle := d.geometry.axle,
    maneuver := d.geometry.maneuver, panGain := d.geometry.panGain, key := d.tone.key, table := d.tone.table,
    glare := d.glare.settings, limits := d.exposure.limits, repeatLimit := d.display.repeatLimit,
    budget := d.display.latencyBudget / 1000, timeout := d.sup.startTimeout / 100 }

/-- The settings in force that a profile holds. -/
def settings (s : State) : Profile :=
  ⟨sideSettings s.left, sideSettings s.right, s.health.thresholds⟩

/-- A tone table of R81: 65 entries of 0 to 1,023, none below the one before it. -/
def toneTable (t : List Nat) : Prop :=
  t.length = 65 ∧ (∀ v ∈ t, v ≤ 1023) ∧ t.Pairwise (· ≤ ·)

/-- Glare settings in the ranges of R53. -/
def glareInRange (g : GlareSettings) : Prop :=
  (10000 ≤ g.level ∧ g.level ≤ 598528) ∧ (1 ≤ g.minHot ∧ g.minHot ≤ 2700) ∧ g.cap ≤ 50 ∧
    (1000 ≤ g.ceiling ∧ g.ceiling ≤ 598528) ∧ (512 ≤ g.floor ∧ g.floor ≤ 4096) ∧
    (1 ≤ g.rampDown ∧ g.rampDown ≤ 4096) ∧ (1 ≤ g.rampUp ∧ g.rampUp ≤ 4096)

/-- Exposure settings in the ranges of R42. -/
def limitsInRange (l : ExposureLimits) : Prop :=
  1 ≤ l.emin ∧ l.emin ≤ l.emax ∧ l.emax ≤ 4096 ∧ (1000 ≤ l.target ∧ l.target ≤ 400000) ∧
    1 ≤ l.eOff ∧ l.eOff < l.eOn ∧ l.eOn ≤ 4096

/-- Thresholds in the ranges of R165. -/
def thresholdsInRange (t : Thresholds) : Prop :=
  (2600 ≤ t.supplyLow ∧ t.supplyLow ≤ 3400) ∧ (2500 ≤ t.supplyCrit ∧ t.supplyCrit ≤ 3300) ∧
    (70 ≤ t.tempHigh ∧ t.tempHigh ≤ 130) ∧ (80 ≤ t.tempCrit ∧ t.tempCrit ≤ 140) ∧
    t.supplyCrit < t.supplyLow ∧ t.tempHigh < t.tempCrit

/-- The settings of a side in their ranges (R42, R53, R81, R93, R119, R141). -/
def sideInRange (p : SideProfile) : Prop :=
  validWindow p.main = true ∧ validWindow p.wide = true ∧ validWindow p.curb = true ∧ validWindow p.axle = true ∧
    validWindow p.maneuver = true ∧ p.panGain ≤ 64 ∧ (64 ≤ p.key ∧ p.key ≤ 1024) ∧ toneTable p.table ∧
    glareInRange p.glare ∧ limitsInRange p.limits ∧ (1 ≤ p.repeatLimit ∧ p.repeatLimit ≤ 15) ∧
    (20 ≤ p.budget ∧ p.budget ≤ 200) ∧ (1 ≤ p.timeout ∧ p.timeout ≤ 50)

/-- The law of the settings: each lies in the range its rule gives, and the timing settings in those of R8. -/
def SettingsLaw (s : State) : Prop :=
  (∀ x, sideInRange (sideSettings (s.side x))) ∧ thresholdsInRange s.health.thresholds ∧
    (16000 ≤ s.timing.framePeriod ∧ s.timing.framePeriod ≤ 40000) ∧
    (2000 ≤ s.timing.cameraLead ∧ s.timing.cameraLead ≤ 60000) ∧
    (20 ≤ s.timing.tolerance ∧ s.timing.tolerance ≤ 2000)

/-! ## The laws of the blocks -/

/-- R22 to R24: the pending queue holds no two transactions of one kind and not both stream kinds, it is empty while
nothing is in flight, and the timer runs exactly while something is. -/
def ChannelLaw (s : State) : Prop :=
  ∀ x, (s.side x).channel.queue.Pairwise (fun t u => sameKind t u = false) ∧
    ((s.side x).channel.queue.any (sameKind .streamOff) = true →
      (s.side x).channel.queue.any (sameKind (.streamOn .triggered 0)) = false) ∧
    ((s.side x).channel.inFlight = none → (s.side x).channel.queue = []) ∧
    ((s.side x).channel.timer.isSome = (s.side x).channel.inFlight.isSome)

/-- R74, R78: 192 gains between 512 and 4,096, all 4,096 on a side that is not NORMAL or is in DAY. -/
def GainLaw (s : State) : Prop :=
  ∀ x, (s.side x).gain.gains.length = 192 ∧ (∀ g ∈ (s.side x).gain.gains, 512 ≤ g ∧ g ≤ 4096) ∧
    ((s.side x).sup.view ≠ .normal ∨ (s.side x).exposure.night = .day → (s.side x).gain.gains = unityGains) ∧
    glareInRange (s.side x).glare.settings

/-- R58, R59, R67: at most 12 entries with distinct identifiers of 1 to 255, the table empty in DAY and while OFF. -/
def GlareLaw (s : State) : Prop :=
  ∀ x, (s.side x).glare.table.length ≤ 12 ∧ ((s.side x).glare.table.map GlareEntry.ident).Nodup ∧
    (∀ e ∈ (s.side x).glare.table, 1 ≤ e.ident ∧ e.ident ≤ 255) ∧ (s.side x).glare.counter ≤ 255 ∧
    ((s.side x).exposure.night = .day ∨ (s.side x).sup.view = .off → (s.side x).glare.table = [])

/-- R93, R108, R112: every window of a unit is valid, the base, in-force and displayed ones lie inside the bounds, and
the windows in force are what R108 takes them from. -/
def geometrySound (x : Side) (g : Geometry) : Prop :=
  validWindow g.bounds = true ∧ validWindow g.curb = true ∧ validWindow g.axle = true ∧
    validWindow g.maneuver = true ∧
    (∀ w ∈ [g.baseMain, g.baseWide, g.mainInForce, g.wideInForce, g.mainShown, g.wideShown],
      validWindow w = true ∧ inside g.bounds w = true) ∧
    g.mainInForce = resolveMain x g ∧ g.wideInForce = resolveWide g

/-- R93, R108: the geometry of both sides is sound. -/
def WindowLaw (s : State) : Prop :=
  ∀ x, geometrySound x (s.side x).geometry

/-- How many slots of a ring are in a state. -/
def Ring.count (st : SlotState) (r : Ring) : Nat :=
  ([r.slot0, r.slot1, r.slot2].filter fun slot => slot.state == st).length

/-- R113: at most one slot WRITING, one READY and one SHOWING, and a frame record exactly in a slot that is not
FREE. -/
def RingLaw (s : State) : Prop :=
  ∀ x, (∀ st, st ≠ SlotState.free → (s.side x).ring.count st ≤ 1) ∧
    (∀ slot ∈ [(s.side x).ring.slot0, (s.side x).ring.slot1, (s.side x).ring.slot2],
      slot.record.isSome = (slot.state != .free))

/-- R127: at most 8 entries, under the consecutive numbers that end at the output frame number. -/
def HistoryLaw (s : State) : Prop :=
  ∀ x, (s.side x).display.history.length ≤ 8 ∧
    ∀ i e, (s.side x).display.history[i]? = some e →
      e.number + BitVec.ofNat 16 ((s.side x).display.history.length - 1 - i) = (s.side x).display.number

/-- R135, R138, R139, R154: a kind of scope both or device stands alike in both sets; only a LATCHED kind is HELD, and
CALIBRATION_DAMAGED never; FRAME_MALFORMED stands in no set. -/
def FaultLaw (s : State) : Prop :=
  (∀ k, kindScope k ≠ .side → (s.faults .left).get k = (s.faults .right).get k) ∧
    ∀ x, (∀ k, (s.faults x).get k = .held → latched k = true ∧ k ≠ .calibrationDamaged) ∧
      (s.faults x).get .frameMalformed = .absent

/-- R142: a side in NORMAL, DEGRADED or BLANKED has its evaluated state, and one in STARTING no kind of class
BLANK. -/
def ViewLaw (s : State) : Prop :=
  ∀ x, match (s.side x).sup.view with
    | .off => True
    | .starting => (s.faults x).holdsClass .blank = false
    | v => v = evaluated (s.faults x)

/-- R163: with power the next sample is at most 1,000 µs ahead, so that none is left out. -/
def SampleLaw (s : State) : Prop :=
  s.powered = true → duration s.health.nextSample s.now ≤ 1000

/-- R159: at most 32 records under consecutive numbers that end before the next one, no missed count above 7, and 1 to
4 kinds in each. -/
def ReportLaw (s : State) : Prop :=
  s.reports.records.length ≤ 32 ∧ s.reports.missed ≤ 7 ∧
    ∀ i r, s.reports.records[i]? = some r →
      r.sequence + BitVec.ofNat 16 (s.reports.records.length - i) = s.reports.next ∧ r.missed ≤ 7 ∧
        1 ≤ r.kinds.length ∧ r.kinds.length ≤ 4

/-- What an operation in flight may be (R188, R190, R191, R193, R196): its values in range and no block it changes
protected. -/
def workAllowed (st : Store) : StoreWork → Prop
  | .write block offset data =>
    block ≤ 63 ∧ offset ≤ 127 ∧ 1 ≤ data.length ∧ data.length ≤ 128 ∧ blockProtected st block = false
  | .erase block => block ≤ 63 ∧ blockProtected st block = false
  | .lock => st.factoryLock = false
  | .save n bytes phase =>
    n ≤ 3 ∧ bytes.length = 256 ∧ 1 ≤ phase ∧ phase ≤ 4 ∧ blockProtected st (8 + 2 * n) = false ∧
      blockProtected st (9 + 2 * n) = false

/-- R186: the cells in canonical form, a boundary of at most 64, the latch clear while an operation is in flight, that
operation allowed, and with power a boundary of at least 8 once the factory lock is set. -/
def StoreLaw (s : State) : Prop :=
  cellsWf s.store.cells = true ∧ s.store.boundary ≤ 64 ∧
    (s.store.operation.isSome = true → s.store.latch = false) ∧
    (∀ o, s.store.operation = some o → workAllowed s.store o.work) ∧
    (s.powered = true → s.store.factoryLock = true → 8 ≤ s.store.boundary)

/-- What stopping a side leaves of its blocks while it is OFF (R19, R40, R50, R54, R90, R112, R116, R133, R149). -/
def idleSide (d : SideState) : Prop :=
  d.vsync.armed = false ∧ d.cam.armed = false ∧ d.held = none ∧ d.port.frame = none ∧ d.port.linkLost = none ∧
    d.stats = ⟨none, none⟩ ∧ d.exposure.waiting = [] ∧ d.glare.waiting = [] ∧ d.tone.latched = none ∧
    d.geometry.overrides = ⟨none, false, none⟩ ∧ d.geometry.inspectTimer = none ∧ d.ring = emptyRing ∧
    d.display.history = [] ∧ d.display.echoTimer = none ∧ d.display.sending = none ∧ d.sup.startTimer = none

/-- R2, R177, R181, R183: the views are OFF outside ACTIVE, a side that is OFF is at rest, an armed trigger has the
frame period, a held trigger means a frame in progress, the init timer runs exactly in INIT, an armed wake timer means
STANDBY, QUIESCING means a channel or the store is not yet at rest, and LOST means a waiting reply. -/
def PartLaw (s : State) : Prop :=
  (∀ x, (s.link.part ≠ .active → (s.side x).sup.view = .off) ∧
    ((s.side x).sup.view = .off → idleSide (s.side x)) ∧
    ((s.side x).vsync.armed = true → (s.side x).vsync.period = s.timing.framePeriod) ∧
    ((s.side x).cam.armed = true → (s.side x).cam.period = s.timing.framePeriod) ∧
    ((s.side x).held.isSome = true → (s.side x).port.frame.isSome = true)) ∧
  (s.link.initTimer.isSome = (s.link.part == .init)) ∧
  (s.link.wakeTimer.isSome = true → s.link.part = .standby) ∧
  (s.powered = true → s.link.part = .quiescing → atRest s = false) ∧
  (s.link.lost = true → s.link.slot.isSome = true)

end Sys2Proof.Machine
end

