-- ==== Sys2Proof/Certificates/Slice0/Obligations.lean ====
section
/-! DEFINITION. The statements for the provers, taken from the numbered rules of the spec; OBLIGATIONS.json says of
each which rule it states and which clauses are the model's own choices. -/

open Sys2Proof Sys2Proof.Machine

/-- For every state whose queue begins with a command c, one step is exec of c on the state with the rest of the
queue. [00_scope: events are taken one at a time] -/
def Obligations.StepTakesTheFrontCommand : Prop :=
  ∀ (c : Instr) (rest : List Instr) (s : State), s.pending = c :: rest →
    step s = exec c { s with pending := rest }

/-- The model's choices (log 1, log 2, log 4): on an empty queue a step takes the first event of the part's own that
is due; where none is due, part time advances by one microsecond (R1: modulo 2^48) and nothing else of the part
changes. While the part has no power, every command but POWER_ON leaves everything of it as it was. [R1
(01_time_base section 1.1), R184 (10_control_link section 10.5), R198 (11_calibration section 11.5)] -/
def Obligations.WithoutCommandOrPowerThePartDoesOnlyThis : Prop :=
  (∀ s : State, s.pending = [] →
      (∀ c cs, dueEvents s = c :: cs → step s = exec c s) ∧
      (dueEvents s = [] → step s = .next { s with now := s.now + 1, out := [], handed := [] })) ∧
    (∀ (c : Instr) (s : State), s.powered = false → c ≠ .powerOn →
      exec c s = .next { s with out := [], handed := [] })

/-- At State.reset part time is 0, the part is in INIT with its timer armed for 5,000, the reply slot and both fault
sets are empty, both views are OFF, the first sample is due at 1,000 and the thresholds are the defaults, and the
timing, signals, reports, health, store, channels, followers, statistics, exposure, glare, gain, tone, windows
with their presets and marker rows, ring, display and counters have the values their rules give, until the init
completion loads them (R199); the default tone table is the rounded-down square-root law of R81. (Displayed
windows equal to those in force: log 17.) [R2, R8, R36, R42, R52, R74, R81, R93, R98, R121, R163, R177] -/
def Obligations.ResetStateHoldsTheValuesTheSpecGives : Prop :=
  let r := State.reset
  (r.now = 0 ∧ r.link.part = .init ∧ r.link.initTimer = some 5000 ∧ r.link.wakeTimer = none ∧
    r.link.pendingWake = none ∧ r.link.resetPending = none ∧ r.link.slot = none ∧ r.link.lost = false ∧
    r.link.frames = 0 ∧ r.link.badFrames = 0 ∧ r.link.lostReplies = 0) ∧
  r.timing = ⟨16667, 19000, .triggered, .triggered, 100⟩ ∧
  (r.signals.speed = 0 ∧ r.signals.reverse = false ∧ r.signals.angle = 0 ∧
    r.signals.speedStatus = ⟨false, false, none⟩ ∧ r.signals.reverseStatus = ⟨false, false, none⟩ ∧
    r.signals.angleStatus = ⟨false, false, none⟩) ∧
  r.reports = ⟨[], 0, 0⟩ ∧
  (r.health.nextSample = 1000 ∧ r.health.thresholds = ⟨3000, 2900, 115, 125⟩ ∧ r.health.supply = none ∧
  r.health.temperature = none ∧ r.health.minSupply = none ∧
    r.health.maxTemperature = none ∧ r.health.entered = ⟨false, false, false, false⟩ ∧
    r.health.sticky = ⟨false, false, false, false⟩) ∧
  (r.store.latch = false ∧ r.store.boundary = 8 ∧ r.store.operation = none ∧ r.store.completedOk = false) ∧
  ∀ x, let d := r.side x
    (d.vsync.armed = false ∧ d.cam.armed = false ∧ d.held = none) ∧
    d.port = ⟨none, none, none, 0, none⟩ ∧ d.channel = ⟨[], none, none, 0⟩ ∧ d.follower = ⟨false, 0, 0⟩ ∧
    d.stats = ⟨none, none⟩ ∧
    (d.exposure.night = .day ∧ d.exposure.nightRun = 0 ∧ d.exposure.limits = ⟨1, 4096, 40000, 400, 200⟩ ∧
      d.exposure.commanded = 1) ∧
    (d.glare.table = [] ∧ d.glare.regions = [] ∧ d.glare.counter = 0 ∧ d.glare.formed = 0 ∧ d.glare.kept = 0 ∧
      d.glare.settings = ⟨300000, 8, 25, 60000, 512, 512, 256⟩) ∧
    (d.gain.gains.length = 192 ∧ (∀ g ∈ d.gain.gains, g = 4096) ∧ d.gain.version = 0) ∧
    (d.tone.key = 256 ∧ d.tone.latched = none ∧ d.tone.table.length = 65 ∧
      ∀ i v, d.tone.table[i]? = some v → 64 * v ^ 2 ≤ 1023 ^ 2 * i ∧ 1023 ^ 2 * i < 64 * (v + 1) ^ 2) ∧
    (d.geometry.overrides = ⟨none, false, none⟩ ∧ d.geometry.inspectTimer = none ∧ d.geometry.panGain = 12 ∧
      d.geometry.bounds = ⟨0, 0, 1920, 1080⟩ ∧ d.geometry.baseMain = d.geometry.bounds ∧
      d.geometry.baseWide = d.geometry.bounds ∧ d.geometry.curb = d.geometry.bounds ∧
      d.geometry.axle = d.geometry.bounds ∧ d.geometry.maneuver = d.geometry.bounds ∧
      d.geometry.markers = [none, none, none] ∧ d.geometry.mainInForce = d.geometry.bounds ∧
      d.geometry.wideInForce = d.geometry.bounds ∧ d.geometry.mainShown = d.geometry.bounds ∧
      d.geometry.wideShown = d.geometry.bounds) ∧
    (d.ring.slot0.state = .free ∧ d.ring.slot1.state = .free ∧ d.ring.slot2.state = .free) ∧
    (d.display.number = 0 ∧ d.display.history = [] ∧ d.display.begun = false ∧ d.display.echoTimer = none ∧
      d.display.mismatchRun = 0 ∧ d.display.matchRun = 0 ∧ d.display.overRun = 0 ∧ d.display.withinRun = 0 ∧
      d.display.received = [] ∧ d.display.idleTimer = none ∧ d.display.repeatLimit = 3 ∧
      d.display.latencyBudget = 50000) ∧
    (d.sup.view = .off ∧ d.sup.startTimer = none ∧ d.sup.startTimeout = 2000 ∧
      ∀ k, d.sup.faults.get k = .absent) ∧
    d.counters = ⟨0, 0, 0, 0, 0, 0, 0, 0, 0, 0, 0, 0⟩

/-- The laws of the settings, channels, gain maps, glare tables, windows, rings, histories, fault sets, views,
reports, store, part states and samples all hold at State.reset. [R22, R78, R93, R113, R127, R135, R142, R159,
R177, R186] -/
def Obligations.LawsHoldAtReset : Prop :=
  SettingsLaw State.reset ∧ ChannelLaw State.reset ∧ GainLaw State.reset ∧ GlareLaw State.reset ∧
    WindowLaw State.reset ∧ RingLaw State.reset ∧ HistoryLaw State.reset ∧ FaultLaw State.reset ∧
    ViewLaw State.reset ∧ ReportLaw State.reset ∧ StoreLaw State.reset ∧ PartLaw State.reset ∧ SampleLaw State.reset

/-- From every state whose settings are in their ranges, in which the cells are in canonical form, the boundary is at
most 64, the latch is clear while an operation is in flight, that operation's values are in range and none of its
blocks is protected, and (with power) the boundary is at least 8 once the factory lock is set, a step gives such a
store again. [R185, R186, R188, R193, R198] -/
def Obligations.StepsKeepTheStoreLaw : Prop :=
  ∀ s t : State, StoreLaw s → SettingsLaw s → step s = .next t → StoreLaw t

/-- From every state with at most 32 records under consecutive sequence numbers that end before the next one, 1 to 4
kinds in each and no missed count above 7, a step gives such a state. [R156, R158, R159, R160] -/
def Obligations.StepsKeepTheReportLaw : Prop :=
  ∀ s t : State, ReportLaw s → step s = .next t → ReportLaw t

/-- From every state in which kinds of scope both or device stand alike in both sets, only LATCHED kinds are HELD
(CALIBRATION_DAMAGED never), FRAME_MALFORMED stands in no set, a side in NORMAL, DEGRADED or BLANKED has its
evaluated state and a side in STARTING has no BLANK kind, a step gives such a state. [R135, R138, R139, R142,
R145, R154] -/
def Obligations.StepsKeepTheFaultAndViewLaws : Prop :=
  ∀ s t : State, FaultLaw s → ViewLaw s → step s = .next t → FaultLaw t ∧ ViewLaw t

/-- From every state of the part law in which each side has 192 gains of 512 to 4,096, all 4,096 unless the side is
NORMAL in NIGHT, and a glare table of at most 12 entries with distinct identifiers of 1 to 255 that is empty in
DAY and while OFF, a step gives such a state. [R58, R59, R67, R71, R74, R76, R78] -/
def Obligations.StepsKeepTheGainAndGlareLaws : Prop :=
  ∀ s t : State, PartLaw s → GainLaw s → GlareLaw s → step s = .next t → GainLaw t ∧ GlareLaw t

/-- From every state in which the bounds and presets are valid, the base, in-force and displayed windows are valid and
inside the bounds, the windows in force are what R108 takes them from, and every setting lies in the range its
rule gives, a step gives such a state. [R8, R42, R47, R53, R73, R91, R93, R95, R96, R108, R109, R165] -/
def Obligations.StepsKeepTheWindowAndSettingsLaws : Prop :=
  ∀ s t : State, WindowLaw s → SettingsLaw s → step s = .next t → WindowLaw t ∧ SettingsLaw t

/-- From every state in which each ring has at most one slot WRITING, one READY and one SHOWING with a frame record
exactly in the slots that are not FREE, and each history holds at most 8 entries under consecutive numbers ending
at the output frame number, a step gives such a state. [R113, R114, R115, R116, R117, R127, R129] -/
def Obligations.StepsKeepTheRingAndHistoryLaws : Prop :=
  ∀ s t : State, RingLaw s → HistoryLaw s → step s = .next t → RingLaw t ∧ HistoryLaw t

/-- From every state in which each pending queue holds no two transactions of one kind and not both stream kinds, is
empty while nothing is in flight, and the transaction timer runs exactly while something is, a step gives such a
state. [R22, R23, R24, R26, R27] -/
def Obligations.StepsKeepTheChannelLaw : Prop :=
  ∀ s t : State, ChannelLaw s → step s = .next t → ChannelLaw t

/-- From every state in which views are OFF outside ACTIVE, an OFF side is at rest as a stop leaves it, armed triggers
have the frame period, a held trigger means a frame in progress, the init timer runs exactly in INIT, an armed
wake timer means STANDBY, QUIESCING with power means a channel or the store is not at rest, and LOST means a
waiting reply, a step gives such a state. From every state in which, with power, the next sample is at most 1,000
µs ahead, a step gives such a state: no sample is left out (R163). [R2, R19, R112, R116, R133, R149, R171, R177,
R181, R182] -/
def Obligations.StepsKeepThePartLaw : Prop :=
  (∀ s t : State, PartLaw s → step s = .next t → PartLaw t) ∧
    (∀ s t : State, SampleLaw s → step s = .next t → SampleLaw t)

/-- From every state of the store law, whatever the step does (a phase of an operation, a loss of power, a reset),
every byte of a block that is protected before the step reads after it as before. [R186, R188, R193, R198] -/
def Obligations.NoStepChangesAProtectedBlock : Prop :=
  ∀ (s t : State) (block offset : Nat), StoreLaw s → step s = .next t → block ≤ 63 → offset < 128 →
    blockProtected s.store block = true →
    readCell t.store.cells (cellAddress block offset) = readCell s.store.cells (cellAddress block offset)

/-- With power, CHIP_SELECT_FALLING opens a window that holds the status byte (bits 0 to 5 INIT, STBY, REPLY, ATTN,
SBUSY, LOST; 6 and 7 are 0) and the reply slot as they are now, and nothing else changes. With no reset made in
the window, COLLECT_WINDOW shifts out the status byte, the reply that waited at the opening and 0x00 beyond it,
and empties the slot with LOST cleared, however few bytes were clocked; POLL_WINDOW shifts out the status byte and
0x00 and changes nothing else. Where a reset was made in the window, a collect window, a poll and a request window
of any bytes or any request alike close as a poll: nothing is taken, counted or answered, the slot stays, and
every byte after the first k is 0x00 (k, how many had gone out, is free, log 8). (The model's choices, log 7: a
falling edge in an open window opens it anew, and POLL_WINDOW is a poll whatever its bytes, 0xA5 or 0x5A first
too.) [R170, R171, R172, R184, R202] -/
def Obligations.WindowsOpenAndCloseAsStated : Prop :=
  ∀ s : State, s.powered = true →
    (exec .chipSelectFalling s =
        .next { s with
          link := { s.link with window := some ⟨statusByte s, s.link.slot, false⟩ }, out := [], handed := [] } ∧
      (statusByte s).getLsbD 0 = (s.link.part == .init) ∧
      (statusByte s).getLsbD 1 = (s.link.part == .quiescing || s.link.part == .standby) ∧
      (statusByte s).getLsbD 2 = s.link.slot.isSome ∧
      (statusByte s).getLsbD 3 = !s.reports.records.isEmpty ∧
      (statusByte s).getLsbD 4 = s.store.operation.isSome ∧
      (statusByte s).getLsbD 5 = s.link.lost ∧
      (statusByte s).getLsbD 6 = false ∧ (statusByte s).getLsbD 7 = false) ∧
    ∀ w : LinkWindow, s.link.window = some w →
      (w.spannedReset = false →
        (∀ n, exec (.collectWindow n) s =
          .next { s with
            link := { s.link with window := none, slot := none, lost := false },
            out := [.shifted ((w.status :: (w.reply.getD [] ++ List.replicate (n + 1) 0)).take (n + 1))],
            handed := [] }) ∧
        (∀ bytes : List Byte, exec (.pollWindow bytes) s =
          .next { s with
            link := { s.link with window := none },
            out := [.shifted ((w.status :: List.replicate bytes.length 0).take bytes.length)],
            handed := [] })) ∧
      (w.spannedReset = true →
        ∃ k : Nat,
          let closed := fun (n : Nat) (carried : List Byte) =>
            ({ s with
              link := { s.link with window := none },
              out := [.shifted (((w.status :: (carried ++ List.replicate n 0)).take n).take k ++
                List.replicate (n - k) 0)],
              handed := [], freeCount := s.freeCount + 1 } : State)
          (∀ n, exec (.collectWindow n) s = .next (closed (n + 1) (w.reply.getD []))) ∧
          (∀ bytes : List Byte, exec (.pollWindow bytes) s = .next (closed bytes.length [])) ∧
          (∀ bytes : List Byte, exec (.requestWindowClose bytes) s = .next (closed (bytes.length + 1) [])) ∧
          ∀ (kind : RequestKind) (tag : Byte) (p : List Byte),
            exec (request kind tag p) s = .next (closed (p.length + 6) []))

/-- For every kind byte, tag and payload of at most 248 bytes, the bytes kind, tag, length, payload, CRC pass the
framing and give back kind, tag and payload; every request kind is the one its code names, and no code outside
0x01 to 0x1C names one. [R173, R201, R202, R203] -/
def Obligations.RequestFrameBytesReadBack : Prop :=
  (∀ (kind tag : Byte) (p : List Byte), p.length ≤ 248 →
      readFrame (requestBytes kind tag p) = .good kind.toNat tag p) ∧
    (∀ k : RequestKind, kindOfCode (kindCode k) = some k ∧ 1 ≤ kindCode k ∧ kindCode k ≤ 0x1C) ∧
    (∀ (n : Nat) (k : RequestKind), kindOfCode n = some k → kindCode k = n)

/-- Where the bytes of a request window pass the framing and the kind is known, REQUEST_WINDOW_CLOSE does exactly what
the request of that kind, tag and payload does; with power and no reset made in the window, and the request not a
RESET, it answers a next state in which the frame is counted and a reply waits. [R173, R174] -/
def Obligations.RequestWindowWithAGoodFrameIsThatRequest : Prop :=
  ∀ (bytes : List Byte) (s : State) (kind : Nat) (tag : Byte) (p : List Byte) (k : RequestKind),
    readFrame bytes = .good kind tag p → kindOfCode kind = some k →
    exec (.requestWindowClose bytes) s = exec (request k tag p) s ∧
    (s.powered = true → (closingWindow s).spannedReset = false → k ≠ .reset →
      ∃ t, exec (.requestWindowClose bytes) s = .next t ∧ t.link.frames = satInc s.link.frames ∧
        t.link.slot.isSome = true ∧ t.link.window = none)

/-- A frame fails the framing exactly if fewer than three bytes follow 0xA5, its length is above 248, the byte count
is not the length plus five, or the CRC differs; with power it is then counted, counted as bad and refused with
BAD_FRAME. A sound frame of an unknown kind is counted and refused with UNKNOWN_KIND. Nothing else of the part
changes. [R173, R174 step 1, R175] -/
def Obligations.BadFramesAndUnknownKindsAreRefusedAndCounted : Prop :=
  (∀ bytes : List Byte, (∃ kind tag, readFrame bytes = .bad kind tag) ↔
      (bytes.length < 3 ∨ 248 < uField bytes 2 1 ∨ bytes.length ≠ uField bytes 2 1 + 5 ∨
        crc16 (bytes.take (uField bytes 2 1 + 3)) ≠ BitVec.ofNat 16 (uField bytes (uField bytes 2 1 + 3) 2))) ∧
    ∀ (bytes : List Byte) (s : State) (kind : Nat) (tag : Byte),
      s.powered = true → (closingWindow s).spannedReset = false →
      (readFrame bytes = .bad kind tag →
        kind = (bytes.getD 0 0).toNat ∧ tag = bytes.getD 1 0 ∧
        exec (.requestWindowClose bytes) s = .next { s with
          link := placedLink { countedLink s.link with badFrames := satInc s.link.badFrames }
            (replyFrame kind tag .badFrame []),
          out := [.shifted (windowOutput (closingWindow s) (bytes.length + 1) [])], handed := [] }) ∧
      (∀ p, readFrame bytes = .good kind tag p → kindOfCode kind = none →
        exec (.requestWindowClose bytes) s = .next { s with
          link := placedLink (countedLink s.link) (replyFrame kind tag .unknownKind []),
          out := [.shifted (windowOutput (closingWindow s) (bytes.length + 1) [])], handed := [] })

/-- For each of the 28 requests: with power and no reset made in the window, a payload of the wrong length is refused
with BAD_LENGTH, and a request of the right length outside the request set in force with REFUSED_STATE; the frame
is counted, the reply is placed, and nothing else of the part changes. The set in force is STATUS alone in INIT
and while a reset is pending, STATUS, IDENTIFY, WAKE and RESET in QUIESCING and STANDBY, and every request in
ACTIVE. [R174 steps 2 and 3, R175, R178] -/
def Obligations.RequestsOutsideTheirSetOrLengthChangeOnlyTheLink : Prop :=
  ∀ (k : RequestKind) (tag : Byte) (p : List Byte) (s : State),
    (inRequestSet s k = true ↔
      (k = .status ∨ (s.link.resetPending = none ∧
        (s.link.part = .active ∨
          ((s.link.part = .quiescing ∨ s.link.part = .standby) ∧ (k = .identify ∨ k = .wake ∨ k = .reset)))))) ∧
    (s.powered = true → (closingWindow s).spannedReset = false → p.length ≤ 248 →
      (lengthRight k p = false →
        exec (request k tag p) s = .next (answered k tag p.length .badLength [] s)) ∧
      (lengthRight k p = true → inRequestSet s k = false →
        exec (request k tag p) s = .next (answered k tag p.length .refusedState [] s)))

/-- STATUS and IDENTIFY answer OK with the fields of R179 and R180, and READ_GLARE with a side's night state, counts
and entries (R72; another side code is refused with BAD_VALUE); FETCH_REPORTS removes and returns the oldest
min(n, 8) records (CLAMPED above 8) with the number left and the missed count; READ_HEALTH returns readings,
extremes, indicators, flags and thresholds, then resets the extremes to the readings and clears the indicators of
levels not entered; READ_COUNTERS returns the counters of the sides named and sets them to 0 if its flag is set
(another side code or flag is refused with BAD_VALUE). Nothing else but the link changes; the frames counter that
IDENTIFY reports counts the request itself. [R72, R160, R166, R169, R178, R179, R180, R203, R204] -/
def Obligations.ReadRequestsReturnWhatIsHeld : Prop :=
  ∀ (tag : Byte) (s : State),
    (Answerable .status [] s → exec (.status tag []) s = .next (answered .status tag 0 .ok
      (le 1 (partCodeOf s.link.part) ++ [if s.link.resetPending.isSome then 1 else 0] ++
        le 1 (wakeCode s.link.pendingWake) ++
        le 1 (viewCode s.left.sup.view) ++ le 1 (overrideBits s.left.geometry.overrides) ++
        le 1 (nightCode s.left.exposure.night) ++
        le 1 (viewCode s.right.sup.view) ++ le 1 (overrideBits s.right.geometry.overrides) ++
        le 1 (nightCode s.right.exposure.night) ++
        le 1 s.reports.records.length ++ le 1 s.reports.missed ++ le 1 (storeStateCode s.store) ++
        [if s.store.completedOk then 0x00 else 0xFF]) s)) ∧
    (Answerable .identify [] s → exec (.identify tag []) s = .next (answered .identify tag 0 .ok
      (le 2 0x0620 ++ le 1 1 ++ le 1 1 ++ le 2 s.link.partCode.toNat ++ le 4 (satInc s.link.frames) ++
        le 4 s.link.badFrames ++ le 4 s.link.lostReplies) s)) ∧
    (∀ code : Byte, Answerable .readGlare [code] s →
      (2 ≤ code.toNat → exec (.readGlare tag [code]) s = .next (answered .readGlare tag 1 .badValue [] s)) ∧
      (∀ x, code.toNat = sideCode x → exec (.readGlare tag [code]) s = .next (answered .readGlare tag 1 .ok
        (le 1 (nightCode (s.side x).exposure.night) ++ le 1 (s.side x).glare.formed ++ le 1 (s.side x).glare.kept ++
          le 1 (s.side x).glare.table.length ++ (s.side x).glare.table.flatMap fun e =>
            le 1 e.ident ++ le 1 (entryStateCode e.state) ++ le 1 e.seen ++ le 1 e.missed ++ le 1 e.box.column0 ++
              le 1 e.box.row0 ++ le 1 e.box.column1 ++ le 1 e.box.row1 ++ le 4 e.peak ++ le 1 (grantCode e.grant) ++
              le 2 e.age) s))) ∧
    (∀ n : Byte, Answerable .fetchReports [n] s →
      exec (.fetchReports tag [n]) s = .next { answered .fetchReports tag 1 (if 8 < n.toNat then .clamped else .ok)
        (le 1 (s.reports.records.take (min 8 n.toNat)).length ++
          (s.reports.records.take (min 8 n.toNat)).flatMap recordBytes ++
          le 1 (s.reports.records.length - min 8 n.toNat) ++ le 1 s.reports.missed) s with
        reports := { s.reports with records := s.reports.records.drop (min 8 n.toNat) } }) ∧
    (Answerable .readHealth [] s →
      exec (.readHealth tag []) s = .next { answered .readHealth tag 0 .ok
        (supplyBytes s.health.supply ++ temperatureBytes s.health.temperature ++ supplyBytes s.health.minSupply ++
          temperatureBytes s.health.maxTemperature ++ levelBytes s.health.sticky ++ levelBytes s.health.entered ++
          thresholdBytes s.health.thresholds) s with
        health := { s.health with
          minSupply := s.health.supply, maxTemperature := s.health.temperature,
          sticky := ⟨s.health.sticky.supplyLow && s.health.entered.supplyLow,
            s.health.sticky.supplyCrit && s.health.entered.supplyCrit,
            s.health.sticky.tempHigh && s.health.entered.tempHigh,
            s.health.sticky.tempCrit && s.health.entered.tempCrit⟩ } }) ∧
    (∀ side clear : Byte, Answerable .readCounters [side, clear] s →
      (2 < side.toNat ∨ 1 < clear.toNat →
        exec (.readCounters tag [side, clear]) s = .next (answered .readCounters tag 2 .badValue [] s)) ∧
      (side.toNat ≤ 2 → clear.toNat ≤ 1 →
        exec (.readCounters tag [side, clear]) s = .next { answered .readCounters tag 2 .ok
          ((if names side.toNat .left then counterBytes s.left.counters else []) ++
            (if names side.toNat .right then counterBytes s.right.counters else [])) s with
          left := if names side.toNat .left ∧ clear = 1 then
              { s.left with counters := ⟨0, 0, 0, 0, 0, 0, 0, 0, 0, 0, 0, 0⟩ } else s.left,
          right := if names side.toNat .right ∧ clear = 1 then
              { s.right with counters := ⟨0, 0, 0, 0, 0, 0, 0, 0, 0, 0, 0, 0⟩ } else s.right }))

/-- In every state, POWER_ON answers the state after power-on with the store's cells and the factory lock kept and an
empty reply slot. (That the level of the wake line, the use of free values and the queue are kept is the model's
choice, log 29; so is that a part which has power makes the same reset and drops an operation in flight without
damage, log 28, and that a link window which was open is dropped and not kept to close as a poll, log 35.) [R177,
R184, R185] -/
def Obligations.PowerOnMakesTheResetAndKeepsTheStore : Prop :=
  ∀ s : State, exec .powerOn s = .next { State.reset with
    store := { State.reset.store with cells := s.store.cells, factoryLock := s.store.factoryLock },
    link := { State.reset.link with wakeLine := s.link.wakeLine },
    freeCount := s.freeCount, pending := s.pending }

/-- From every state of the store law with power, POWER_LOSS ends the operation in flight without a completion; each
cell holds the value it had or the value that the phase in flight would have left (which of the two is free, log
9); the factory lock stays set if it was, and is set only if it was or STORE_LOCK_FACTORY was in flight; the rest
of the part is left for the power-on. [R185, R198] -/
def Obligations.PowerLossLeavesEachCellOldOrNew : Prop :=
  ∀ s : State, s.powered = true → StoreLaw s →
    ∃ t, exec .powerLoss s = .next t ∧
      t = { s with store := t.store, powered := false, freeCount := t.freeCount, out := [], handed := [] } ∧
      t.store = { s.store with cells := t.store.cells, factoryLock := t.store.factoryLock, operation := none } ∧
      (s.store.operation = none → t.store.cells = s.store.cells) ∧
      (∀ o, s.store.operation = some o → ∀ a,
        readCell t.store.cells a = readCell s.store.cells a ∨
        readCell t.store.cells a = phaseByte o.work a (readCell s.store.cells a)) ∧
      (s.store.factoryLock = true → t.store.factoryLock = true) ∧
      (t.store.factoryLock = true →
        s.store.factoryLock = true ∨ ∃ o, s.store.operation = some o ∧ o.work = .lock)

/-- With power, the init timer due, both views OFF, both channels as after power-on and the window law: the part is
ACTIVE with the timer disarmed; a calibration whose CRC checks gives each side its bounds and marker rows and the
part code, one that fails raises CALIBRATION_DAMAGED in both sets and gives the full active area, no marker rows
and part code 0; profile 0, corrected, or (damaged) the defaults are in force on both sides and the device, and
E_cmd is Emin. If the wake line is high each side, so loaded, is started with STREAM_ON sent; otherwise each stays
OFF as loaded with STREAM_OFF sent. Everything else is as before; the raise is handed on and recorded. (Displayed
windows of an OFF side equal to those in force: log 17; that the level of the line is kept: log 6.) [R29, R94,
R96, R144, R154, R177, R180, R199] -/
def Obligations.InitCompletionLoadsAndStartsOrStops : Prop :=
  ∀ (wakeHigh : Bool) (s : State), s.powered = true → due s.link.initTimer s.now = true → WindowLaw s →
    (∀ x, (s.side x).sup.view = .off) → (∀ x, (s.side x).channel = ⟨[], none, none, 0⟩) →
    (let b := readCells s.store.cells 0 1024
     let good := decide (crc16 (b.take 1022) = BitVec.ofNat 16 (uField b 1022 2))
     let q := readCells s.store.cells 1024 256
     let bounds := fun x => if good then calibratedBounds x b else ⟨0, 0, 1920, 1080⟩
     let markers := fun x => if good then calibratedMarkers x b else [none, none, none]
     let profile := fun (x : Side) =>
       if profileDamaged 0 q then defaultSide (bounds x)
       else correctSide (bounds x) (match x with | .left => (readProfile q).left | .right => (readProfile q).right)
     let loaded := fun (x : Side) => loadedSide x (bounds x) (markers x) (profile x)
       { s.side x with sup := { (s.side x).sup with
           faults := if good then s.faults x else raisedIn (s.faults x) .calibrationDamaged } }
     let u : State := { s with
       left := loaded .left, right := loaded .right,
       health := { s.health with
         thresholds := if profileDamaged 0 q then ⟨3000, 2900, 115, 125⟩
           else correctThresholds (readProfile q).thresholds },
       link := { s.link with
         part := .active, initTimer := none, wakeLine := wakeHigh,
         partCode := if good then BitVec.ofNat 16 (uField b 0 2) else 0 } }
     let sent := fun x =>
       if wakeHigh then Transaction.streamOn (s.syncMode x) s.timing.framePeriod else .streamOff
     let channel := fun x => (⟨[], some ⟨sent x, 1, false⟩, some (after s.now 2000), 1⟩ : Channel)
     ∃ t, exec (.initCompletion wakeHigh) s = .next t ∧
       t = { u with
         left := t.left, right := t.right, reports := t.reports, handed := t.handed,
         out := [.transaction .left (transactionBytes (sent .left) 1),
           .transaction .right (transactionBytes (sent .right) 1)] } ∧
       (∀ x, t.side x =
         if wakeHigh then startedSide x u (channel x) else { u.side x with channel := channel x }) ∧
       Reported s t ∧ HandedOn .plain [] s t ∧ WindowLaw t) ∧
    ∀ w : Window, defaultSide w =
      { sideSettings State.reset.left with main := w, wide := w, curb := w, axle := w, maneuver := w }

/-- An answerable RESET with no store operation in flight answers the state after power-on with the store's cells and
factory lock kept and the reply to the RESET, OK with its tag, in the slot with LOST clear; with an operation in
flight it sets the reset-pending flag, places no reply, and changes nothing else but the link. With power, a reset
pending and no operation in flight, DEFERRED_RESET makes that reset with the reply to the RESET that waited and
leaves an open window to close as a poll; with an operation in flight, or no reset pending, it changes nothing.
(What else is kept: log 29.) [R175, R184] -/
def Obligations.ResetIsMadeAtOnceOrOnceTheStoreIsIdle : Prop :=
  ∀ (tag : Byte) (s : State),
    (Answerable .reset [] s →
      (s.store.operation = none →
        exec (.reset tag []) s = .next { State.reset with
          store := { State.reset.store with cells := s.store.cells, factoryLock := s.store.factoryLock },
          link := { State.reset.link with wakeLine := s.link.wakeLine, slot := some (replyFrame 0x1C tag .ok []) },
          out := [requestOutput 0 s], freeCount := s.freeCount, pending := s.pending }) ∧
      (s.store.operation.isSome = true →
        exec (.reset tag []) s = .next { s with
          link := { countedLink s.link with resetPending := some tag }, out := [requestOutput 0 s], handed := [] })) ∧
    (s.powered = true →
      (s.link.resetPending = some tag → s.store.operation = none →
        exec .deferredReset s = .next { State.reset with
          store := { State.reset.store with cells := s.store.cells, factoryLock := s.store.factoryLock },
          link := { State.reset.link with
            wakeLine := s.link.wakeLine, slot := some (replyFrame 0x1C tag .ok []),
            window := s.link.window.map fun w => { w with spannedReset := true } },
          freeCount := s.freeCount, pending := s.pending }) ∧
      (s.link.resetPending = none ∨ s.store.operation.isSome = true →
        exec .deferredReset s = .next { s with out := [], handed := [] }))

/-- An answerable STANDBY: the part is QUIESCING and the reply is OK; each running side is stopped (view OFF,
triggers, timers and hold disarmed, frame, statistics, glare table, overrides, slots and history discarded, AUTO
kinds of scope side gone from its set and every other kind as before, an all-4,096 map published if it was
NORMAL); each channel admits STREAM_OFF; a side that was OFF is otherwise as before. Signals, health, store,
timing and part time are as before. [R29, R149, R151, R181] -/
def Obligations.StandbyStopsBothSidesAndQuiesces : Prop :=
  ∀ (tag : Byte) (s : State), Answerable .standby [] s →
    ∃ t, exec (.standby tag []) s = .next t ∧ Reported s t ∧ HandedOn .plain [] s t ∧
      t = { s with
        left := t.left, right := t.right, reports := t.reports,
        link := { placedLink (countedLink s.link) (replyFrame (kindCode .standby) tag .ok []) with part := .quiescing },
        out := t.out, handed := t.handed } ∧
      ∀ x, let channel := ((submit x .streamOff s).side x).channel
        ((s.side x).sup.view = .off → t.side x = { s.side x with channel := channel }) ∧
        ((s.side x).sup.view ≠ .off →
          t.side x = stoppedSide x s (t.faults x) channel ∧
          ∀ k, (t.faults x).get k =
            if kindScope k = .side ∧ latched k = false then .absent else (s.faults x).get k)

/-- An answerable WAKE replies OK and changes nothing else in ACTIVE; in QUIESCING it leaves a pending wake, REQUEST
if none was; in STANDBY with the wake timer disarmed it sets REQUEST and arms the timer for 2,000 µs later, and
with the timer armed it changes nothing else. With power, WAKE_TIMER_EXPIRY, due, makes the part ACTIVE with no
pending wake; a pending LINE starts both sides (which are OFF in STANDBY), and otherwise both are left as they
were. [R144, R182] -/
def Obligations.WakeAndWakeTimerActByThePartState : Prop :=
  (∀ (tag : Byte) (s : State), Answerable .wake [] s →
    let l := placedLink (countedLink s.link) (replyFrame (kindCode .wake) tag .ok [])
    exec (.wake tag []) s = .next { s with
      link :=
        match s.link.part with
        | .init => l
        | .active => l
        | .quiescing => { l with pendingWake := some (s.link.pendingWake.getD .request) }
        | .standby =>
          if s.link.wakeTimer = none then
            { l with pendingWake := some .request, wakeTimer := some (after s.now 2000) }
          else l,
      out := [requestOutput 0 s], handed := [] }) ∧
  ∀ s : State, s.powered = true → due s.link.wakeTimer s.now = true →
    ∃ t, exec .wakeTimerExpiry s = .next t ∧
      t = { s with
        link := { s.link with part := .active, wakeTimer := none, pendingWake := none },
        left := t.left, right := t.right, out := t.out, handed := [] } ∧
      (s.link.pendingWake ≠ some .line → t.out = [] ∧ ∀ x, t.side x = s.side x) ∧
      (s.link.pendingWake = some .line → (∀ x, (s.side x).sup.view = .off) → ∀ x,
        t.side x = startedSide x s (((submit x (.streamOn (s.syncMode x) s.timing.framePeriod) s).side x).channel))

/-- With power: WAKE_LINE_RISING_EDGE does nothing in INIT or while a reset is pending, starts each side that is OFF
in ACTIVE, leaves a pending LINE in QUIESCING and STANDBY, and in STANDBY arms a disarmed timer for 2,000 µs
later. (That the edge leaves the known level of the line high is the model's, log 6.) ENTER_STANDBY in QUIESCING
with both channels quiet and no store operation in flight makes the part STANDBY and arms the wake timer for 2,000
µs later if a wake is pending; in every other case it changes nothing. [R144, R181, R183, R184] -/
def Obligations.WakeLineActsByThePartStateAndStandbyComesAtRest : Prop :=
  ∀ s : State, s.powered = true →
    (let l := { s.link with wakeLine := true }
     (s.link.resetPending.isSome = true ∨ s.link.part = .init →
        exec .wakeLineRisingEdge s = .next { s with link := l, out := [], handed := [] }) ∧
     (s.link.resetPending = none →
       (s.link.part = .quiescing →
         exec .wakeLineRisingEdge s = .next { s with
           link := { l with pendingWake := some .line }, out := [], handed := [] }) ∧
       (s.link.part = .standby →
         exec .wakeLineRisingEdge s = .next { s with
           link := { l with
             pendingWake := some .line,
             wakeTimer := if s.link.wakeTimer = none then some (after s.now 2000) else s.link.wakeTimer },
           out := [], handed := [] }) ∧
       (s.link.part = .active →
         ∃ t, exec .wakeLineRisingEdge s = .next t ∧
           t = { s with left := t.left, right := t.right, link := l, out := t.out, handed := [] } ∧
           ∀ x, t.side x = if (s.side x).sup.view = .off then
               startedSide x s (((submit x (.streamOn (s.syncMode x) s.timing.framePeriod) s).side x).channel)
             else s.side x))) ∧
    (s.link.part = .quiescing →
      (∀ x, (s.side x).channel.inFlight = none ∧ (s.side x).channel.queue = []) → s.store.operation = none →
      exec .enterStandby s = .next { s with
        link := { s.link with
          part := .standby,
          wakeTimer := if s.link.pendingWake.isSome then some (after s.now 2000) else s.link.wakeTimer },
        out := [], handed := [] }) ∧
    (s.link.part ≠ .quiescing ∨ s.store.operation.isSome = true ∨
        (∃ x, (s.side x).channel.inFlight.isSome = true ∨ (s.side x).channel.queue ≠ []) →
      exec .enterStandby s = .next { s with out := [], handed := [] })

/-- With power and the trigger due, CAM_TRIGGER_EXPIRY advances the next-fire time by the period. In FOLLOW nothing
more happens. In TRIGGERED with the port IDLE one pulse is sent and TRIGGER_LATE is told gone. With the port
RECEIVING the trigger is held from its expiry time, and an earlier hold is dropped late: TRIGGER_LATE is raised
and counted. Nothing else of either side changes but the view and map that the set calls for. [R5, R6] -/
def Obligations.CameraTriggerExpiryActsByModeAndPort : Prop :=
  ∀ (x : Side) (s : State), s.powered = true → (s.side x).cam.due s.now = true → ViewLaw s →
    ∃ t, exec (.camTriggerExpiry x) s = .next t ∧ OneSide x s t ∧ Reported s t ∧ HandedOn .plain [] s t ∧
      ViewFollows x s t ∧ MapFollows x s t ∧
      (t.side x) = { s.side x with
        cam := { (s.side x).cam with next := after (s.side x).cam.next (s.side x).cam.period },
        held := (t.side x).held, counters := (t.side x).counters, sup := (t.side x).sup, gain := (t.side x).gain } ∧
      (t.side x).sup = { (s.side x).sup with view := (t.side x).sup.view, faults := t.faults x } ∧
      (s.syncMode x = .follow →
        t.out = [] ∧ (t.side x).held = (s.side x).held ∧ t.faults x = s.faults x ∧
          (t.side x).counters = (s.side x).counters) ∧
      (s.syncMode x = .triggered → (s.side x).port.frame = none →
        t.out = [.pulse x] ∧ (t.side x).held = (s.side x).held ∧ t.faults x = goneIn (s.faults x) .triggerLate ∧
          (t.side x).counters = (s.side x).counters) ∧
      (s.syncMode x = .triggered → (s.side x).port.frame.isSome = true →
        t.out = [] ∧ (t.side x).held = some (s.side x).cam.next ∧
        ((s.side x).held = none → t.faults x = s.faults x ∧ (t.side x).counters = (s.side x).counters) ∧
        ((s.side x).held.isSome = true → t.faults x = raisedIn (s.faults x) .triggerLate ∧
          (t.side x).counters = { (s.side x).counters with triggersLate := satInc (s.side x).counters.triggersLate }))

/-- With power: a frame start, a line or a frame end on a side that is OFF changes nothing, nor does a line or a frame
end at a port that is IDLE; an ACK or NACK arrival with nothing in flight or with another attempt number changes
nothing, and neither does one whose answer byte is not the one its command names (for the bytes 0 and 1 the
model's choice, log 26). [R13, R15, R19, R28, R208] -/
def Obligations.DiscardedArrivalsChangeNothing : Prop :=
  ∀ (x : Side) (s : State), s.powered = true →
    ((s.side x).sup.view = .off →
      ∀ a b c, exec (.frameStartArrival x a b c) s = .next { s with out := [], handed := [] }) ∧
    ((s.side x).sup.view = .off ∨ (s.side x).port.frame = none →
      (∀ bytes, exec (.lineArrival x bytes) s = .next { s with out := [], handed := [] }) ∧
      exec (.frameEndArrival x) s = .next { s with out := [], handed := [] }) ∧
    ∀ answer attempt : Byte,
      ((∀ f, (s.side x).channel.inFlight = some f → f.attempt ≠ attempt) →
        exec (.ackArrival x answer attempt) s = .next { s with out := [], handed := [] } ∧
        exec (.nackArrival x answer attempt) s = .next { s with out := [], handed := [] }) ∧
      (answer ≠ 0 → exec (.ackArrival x answer attempt) s = .next { s with out := [], handed := [] }) ∧
      (answer ≠ 1 → exec (.nackArrival x answer attempt) s = .next { s with out := [], handed := [] })

/-- With power on a side that is not OFF: the port holds the frame with its capture time, number, clamped exposure,
length and an empty count, and its link-lost timer runs 2 × P from now; the Tone Stage latches map, key and table;
the ring opens a slot under the latched version; a zeroed collecting set begins with the glare level in force;
LINK_LOST is told gone; a frame still in progress was malformed, counted once, with FRAME_MALFORMED left as it
stood; in TRIGGERED mode the follower and the channel are untouched. [R10, R11, R12, R37, R40, R82, R114] -/
def Obligations.FrameStartBeginsAFrameInEveryBlock : Prop :=
  ∀ (x : Side) (number exposure length : Word16) (s : State), s.powered = true → (s.side x).sup.view ≠ .off →
    FaultLaw s → ViewLaw s →
    ∃ t, exec (.frameStartArrival x number exposure length) s = .next t ∧ OneSide x s t ∧ Reported s t ∧
      HandedOn .plain (if (s.side x).port.frame.isSome then malformedBriefly x else []) s t ∧ ViewFollows x s t ∧
      MapFollows x s t ∧
      (let e := max 1 (min 4096 exposure.toNat)
       (t.side x) = { s.side x with
         port := { (s.side x).port with
           frame := some ⟨s.now, number, e, length.toNat, 0, true, 0xFFFFFFFF⟩,
           linkLost := some (after s.now (2 * s.timing.framePeriod)) },
         stats := { (s.side x).stats with
           collecting := some ⟨List.replicate 192 ⟨0, 0, 0⟩, e, (s.side x).glare.settings.level, none⟩ },
         tone := { (s.side x).tone with
           latched := some ⟨(s.side x).gain, (s.side x).tone.key, (s.side x).tone.table⟩ },
         ring := (s.side x).ring.openSlot ⟨number, s.now, e, (s.side x).gain.version, 0⟩,
         counters := { (s.side x).counters with
           malformed := if (s.side x).port.frame.isSome then satInc (s.side x).counters.malformed
             else (s.side x).counters.malformed },
         channel := (t.side x).channel, follower := (t.side x).follower,
         sup := (t.side x).sup, gain := (t.side x).gain }) ∧
      (t.side x).sup = { (s.side x).sup with view := (t.side x).sup.view, faults := t.faults x } ∧
      (∀ k, k ≠ .linkLost → k ≠ .phaseUnlocked → (t.faults x).get k = (s.faults x).get k) ∧
      (t.faults x).get .linkLost = .absent ∧
      (s.syncMode x = .triggered →
        t.out = [] ∧ (t.side x).channel = (s.side x).channel ∧ (t.side x).follower = (s.side x).follower ∧
          (t.faults x).get .phaseUnlocked = (s.faults x).get .phaseUnlocked)

/-- For every capture time, grid time and period above 0 the phase error differs from the signed difference by whole
periods and lies within half a period; the signed difference is minus (g − c) modulo 2^48 where g is later than c
and (c − g) modulo 2^48 otherwise (R1, R31); a quotient is rounded to the nearest integer, and of two equally near
to the one farther from zero. With power in FOLLOW mode a frame start with error e clears a set flag and admits
nothing; with the flag clear it admits ADJUST_LENGTH(−n) and sets the flag exactly if e is out of tolerance and n,
e × 1,125 / P rounded half away from zero and clamped into −8 to 8, is not 0; the runs count whichever holds,
PHASE_UNLOCKED is raised at 60 and told gone at 10. [R31, R32, R33] -/
def Obligations.FollowerMeasuresCountsAndCorrects : Prop :=
  (∀ (c g : PartTime) (p : Nat), 0 < p →
      (∃ m : Int, signedDifference c g = phaseError c g p + m * p) ∧
      -(p : Int) < 2 * phaseError c g p ∧ 2 * phaseError c g p ≤ p) ∧
    (∀ c g : PartTime,
      (1 ≤ (g - c).toNat ∧ (g - c).toNat ≤ 2 ^ 47 - 1 → signedDifference c g = -((g - c).toNat : Int)) ∧
      (¬(1 ≤ (g - c).toNat ∧ (g - c).toNat ≤ 2 ^ 47 - 1) → signedDifference c g = ((c - g).toNat : Int))) ∧
    (∀ (a : Int) (d : Nat), 0 < d →
      2 * (a - roundAway a d * d).natAbs ≤ d ∧
      (2 * (a - roundAway a d * d).natAbs = d → a.natAbs < (roundAway a d * d).natAbs)) ∧
    ∀ (x : Side) (number exposure length : Word16) (s : State), s.powered = true → (s.side x).sup.view ≠ .off →
      s.syncMode x = .follow → 0 < s.timing.framePeriod → FaultLaw s →
      ∃ t, exec (.frameStartArrival x number exposure length) s = .next t ∧
        (let e := phaseError s.now (s.side x).cam.next s.timing.framePeriod
         let n : Int := max (-8) (min 8 (roundAway (e * 1125) s.timing.framePeriod))
         let inTol := decide (e.natAbs ≤ s.timing.tolerance)
         let corrects := !(s.side x).follower.outstanding && !inTol && decide (n ≠ 0)
         (t.side x).follower =
           ⟨corrects, if inTol then 0 else min 60 ((s.side x).follower.outRun + 1),
             if inTol then min 10 ((s.side x).follower.inRun + 1) else 0⟩ ∧
         (t.side x).channel =
           (if corrects then ((submit x (.adjustLength (-n)) s).side x).channel else (s.side x).channel) ∧
         (t.faults x).get .phaseUnlocked =
           (if !inTol && decide (60 ≤ (s.side x).follower.outRun + 1) then .active
            else if inTol && decide (10 ≤ (s.side x).follower.inRun + 1) then .absent
            else (s.faults x).get .phaseUnlocked))

/-- With power on a side that is not OFF with a frame in progress: a line of 3,840 bytes below line 1,080 is counted,
keeps the shape flag, enters the signature (only in rows that are multiples of 16, every 64th code) and reaches
the statistics decompanded in its row; on an odd row whose even line is held, with a latched set, its two
developed rows join those of the WRITING slot (R86, R88), and the ring is otherwise as before; any other line is
counted up to 1,080 and makes the shape bad, and its quad row is left out. Only the port, the collecting set and
those rows change. Codes are the low 12 bits of each two bytes, and quads are formed of neighbouring codes of the
even and the odd line. Where the even line is held, the odd line of row 2q + 1 adds to each tile of row q / 45 the
sum of its 60 luminances, raises the peak to the greatest of them and counts those at or above the latched level;
the other tiles keep their records, and the one-line store is empty again. (That one line store serves statistics
and development: log 15.) [R13, R14, R34, R35, R38, R86, R88, R208] -/
def Obligations.LinesAreCountedUsedAndEnterTheirTiles : Prop :=
  (∀ (x : Side) (bytes : List Byte) (f : FrameInProgress) (s : State), s.powered = true →
    (s.side x).sup.view ≠ .off → (s.side x).port.frame = some f →
    ∃ t, exec (.lineArrival x bytes) s = .next t ∧ OneSide x s t ∧ t.reports = s.reports ∧ t.out = [] ∧ t.handed = [] ∧
      (t.side x) = { s.side x with
        port := { (s.side x).port with frame := (t.side x).port.frame },
        stats := { (s.side x).stats with collecting := (t.side x).stats.collecting }, ring := (t.side x).ring } ∧
      (f.lineCount < 1080 → bytes.length = 3840 →
        (t.side x).port.frame = some { f with
          lineCount := f.lineCount + 1,
          signature := if f.lineCount % 16 = 0 then (
              (List.range 30).map fun i => (lineCodes bytes).getD (64 * i) 0).foldl signCode f.signature
            else f.signature } ∧
        (t.side x).stats.collecting =
          (s.side x).stats.collecting.map (useLine f.lineCount ((lineCodes bytes).map decompand)) ∧
        (f.lineCount % 2 = 0 → (t.side x).ring = (s.side x).ring) ∧
        (f.lineCount % 2 = 1 →
          ((s.side x).tone.latched = none ∨ (s.side x).stats.collecting.bind Collecting.evenLine = none →
            (t.side x).ring = (s.side x).ring) ∧
          ∀ l evens, (s.side x).tone.latched = some l →
            (s.side x).stats.collecting.bind Collecting.evenLine = some evens →
            let rows := developRows l (f.lineCount / 2) (quadsOf evens ((lineCodes bytes).map decompand))
            let written := fun (slot : Slot) =>
              if slot.state = .writing then { slot with rows := slot.rows ++ rows } else slot
            (t.side x).ring =
              ⟨written (s.side x).ring.slot0, written (s.side x).ring.slot1, written (s.side x).ring.slot2⟩)) ∧
      (1080 ≤ f.lineCount ∨ bytes.length ≠ 3840 →
        (t.side x).port.frame = some { f with lineCount := min 1080 (f.lineCount + 1), shapeGood := false } ∧
        (t.side x).stats.collecting = (s.side x).stats.collecting.map skipLine ∧
        (t.side x).ring = (s.side x).ring)) ∧
  (∀ (bytes : List Byte) (i : Nat) (lo hi : Byte), bytes[2 * i]? = some lo → bytes[2 * i + 1]? = some hi →
    (lineCodes bytes)[i]? = some (lo.toNat + 256 * (hi.toNat % 16))) ∧
  (∀ (evens odds : List Nat) (i : Nat) (u : Quad), (quadsOf evens odds)[i]? = some u ↔
    evens[2 * i]? = some u.r ∧ evens[2 * i + 1]? = some u.g1 ∧ odds[2 * i]? = some u.g2 ∧
      odds[2 * i + 1]? = some u.b) ∧
  ∀ (c : Collecting) (evens odds : List Nat) (q : Nat), c.evenLine = some evens → c.tiles.length = 192 →
    let ys := (quadsOf evens odds).map fun u => (u.r + u.g1 + u.g2 + u.b) / 4
    (useLine (2 * q + 1) odds c).evenLine = none ∧
    (useLine (2 * q + 1) odds c).exposure = c.exposure ∧ (useLine (2 * q + 1) odds c).glareLevel = c.glareLevel ∧
    ∀ i t, c.tiles[i]? = some t →
      (useLine (2 * q + 1) odds c).tiles[i]? = some
        (if i / 16 = q / 45 then
          let mine := (ys.drop (60 * (i % 16))).take 60
          ⟨t.sum + mine.sum, mine.foldl max t.peak, t.hot + (mine.filter fun y => c.glareLevel ≤ y).length⟩
        else t)

/-- With power on a side that is not OFF whose frame passes the shape check: the port is IDLE with the frame's number
and signature as previous values and the frozen run counted by equality of either; the frame is counted; the ring
completes the slot and counts a dropped READY frame; the collecting set becomes the completed set and is signalled
to both takers; SENSOR_FROZEN is raised when the run reaches 3 and told gone by a changed frame; a trigger held
2,000 µs or less fires, one held longer is dropped late. [R7, R15, R16, R39, R115] -/
def Obligations.GoodFrameEndPassesTheFrame : Prop :=
  ∀ (x : Side) (f : FrameInProgress) (s : State), s.powered = true → (s.side x).sup.view ≠ .off →
    (s.side x).port.frame = some f → f.lineCount = 1080 → f.shapeGood = true → 1117 ≤ f.length → f.length ≤ 1133 →
    ViewLaw s →
    ∃ t, exec (.frameEndArrival x) s = .next t ∧ OneSide x s t ∧ Reported s t ∧ HandedOn .plain [] s t ∧
      ViewFollows x s t ∧ MapFollows x s t ∧
      (t.side x).sup = { (s.side x).sup with view := (t.side x).sup.view, faults := t.faults x } ∧
      (let p := (s.side x).port
       let same := p.prevNumber = some f.number ∨ p.prevSignature = some (~~~f.signature)
       let fires := ∃ h, (s.side x).held = some h ∧ duration s.now h ≤ 2000
       let late := ∃ h, (s.side x).held = some h ∧ 2000 < duration s.now h
       (t.side x).port = ⟨none, some f.number, some (~~~f.signature), (t.side x).port.frozenRun, p.linkLost⟩ ∧
       (same → (t.side x).port.frozenRun = p.frozenRun + 1) ∧ (¬same → (t.side x).port.frozenRun = 0) ∧
       (t.side x).held = none ∧ (fires → t.out = [.pulse x]) ∧ (¬fires → t.out = []) ∧
       (t.side x).ring = (s.side x).ring.complete ∧
       (∀ c, (s.side x).stats.collecting = some c →
         (t.side x).stats = ⟨none, some (completeSet c)⟩ ∧
         (t.side x).exposure = { (s.side x).exposure with waiting := (s.side x).exposure.waiting ++ [completeSet c] } ∧
         (t.side x).glare = { (s.side x).glare with waiting := (s.side x).glare.waiting ++ [completeSet c] }) ∧
       ((s.side x).stats.collecting = none → (t.side x).stats = (s.side x).stats ∧
         (t.side x).exposure = (s.side x).exposure ∧ (t.side x).glare = (s.side x).glare) ∧
       (late → (t.side x).counters.triggersLate = satInc (s.side x).counters.triggersLate) ∧
       (¬late → (t.side x).counters.triggersLate = (s.side x).counters.triggersLate) ∧
       (t.side x).counters = { (s.side x).counters with
         framesCaptured := satInc (s.side x).counters.framesCaptured,
         dropped := if (s.side x).ring.has .writing && (s.side x).ring.has .ready then
             satInc (s.side x).counters.dropped else (s.side x).counters.dropped,
         triggersLate := (t.side x).counters.triggersLate } ∧
       (same → p.frozenRun = 2 → (t.faults x).get .sensorFrozen = .active) ∧
       (same → p.frozenRun ≠ 2 → (t.faults x).get .sensorFrozen = (s.faults x).get .sensorFrozen) ∧
       (¬same → (t.faults x).get .sensorFrozen = (goneIn (s.faults x) .sensorFrozen).get .sensorFrozen) ∧
       (late → (t.faults x).get .triggerLate = .active) ∧
       (fires → (t.faults x).get .triggerLate = (goneIn (s.faults x) .triggerLate).get .triggerLate) ∧
       (∀ k, k ≠ .sensorFrozen → (k = .triggerLate → (s.side x).held = none) →
         (t.faults x).get k = (s.faults x).get k) ∧
       (t.side x) = { s.side x with
         held := none, port := (t.side x).port, stats := (t.side x).stats, exposure := (t.side x).exposure,
         glare := (t.side x).glare, ring := (t.side x).ring, counters := (t.side x).counters,
         sup := (t.side x).sup, gain := (t.side x).gain })

/-- With power on a side that is not OFF whose frame fails the shape check: the port is IDLE with its previous values
and frozen run kept, the collecting set and the WRITING slot are discarded, no completion is signalled, the
malformed counter counts once, FRAME_MALFORMED stands nowhere after the event although it was raised and cleared
in it, and a held trigger is released as by a good frame end. [R7, R15, R40, R116, R139] -/
def Obligations.FailedFrameEndGivesTheFrameUp : Prop :=
  ∀ (x : Side) (f : FrameInProgress) (s : State), s.powered = true → (s.side x).sup.view ≠ .off →
    (s.side x).port.frame = some f →
    (f.lineCount ≠ 1080 ∨ f.shapeGood = false ∨ f.length < 1117 ∨ 1133 < f.length) → FaultLaw s → ViewLaw s →
    ∃ t, exec (.frameEndArrival x) s = .next t ∧ OneSide x s t ∧ Reported s t ∧
      HandedOn .plain (malformedBriefly x) s t ∧ ViewFollows x s t ∧ MapFollows x s t ∧
      (t.side x).sup = { (s.side x).sup with view := (t.side x).sup.view, faults := t.faults x } ∧
      (let fires := ∃ h, (s.side x).held = some h ∧ duration s.now h ≤ 2000
       let late := ∃ h, (s.side x).held = some h ∧ 2000 < duration s.now h
       (t.side x) = { s.side x with
         held := none, port := { (s.side x).port with frame := none },
         stats := { (s.side x).stats with collecting := none }, ring := (s.side x).ring.discard,
         counters := { (s.side x).counters with
           malformed := satInc (s.side x).counters.malformed, triggersLate := (t.side x).counters.triggersLate },
         sup := (t.side x).sup, gain := (t.side x).gain } ∧
       (fires → t.out = [.pulse x]) ∧ (¬fires → t.out = []) ∧
       (late → (t.side x).counters.triggersLate = satInc (s.side x).counters.triggersLate ∧
         (t.faults x).get .triggerLate = .active) ∧
       (¬late → (t.side x).counters.triggersLate = (s.side x).counters.triggersLate) ∧
       (fires → (t.faults x).get .triggerLate = .absent) ∧
       (∀ k, (k = .triggerLate → (s.side x).held = none) → (t.faults x).get k = (s.faults x).get k))

/-- With power and the timer due: LINK_LOST is raised and the timer disarmed; at a RECEIVING port the frame, its slot
and its collecting set are given up and a held trigger is released (the malformed counter is unchanged); at an
IDLE port nothing else changes. [R7, R17, R40, R116] -/
def Obligations.LinkLostTimerRaisesAndAbandons : Prop :=
  ∀ (x : Side) (s : State), s.powered = true → due (s.side x).port.linkLost s.now = true → ViewLaw s →
    ∃ t, exec (.linkLostTimerExpiry x) s = .next t ∧ OneSide x s t ∧ Reported s t ∧ HandedOn .plain [] s t ∧
      ViewFollows x s t ∧ MapFollows x s t ∧
      (t.side x).sup = { (s.side x).sup with view := (t.side x).sup.view, faults := t.faults x } ∧
      (t.faults x).get .linkLost = .active ∧
      (∀ k, k ≠ .linkLost → (k = .triggerLate → (s.side x).port.frame = none ∨ (s.side x).held = none) →
        (t.faults x).get k = (s.faults x).get k) ∧
      ((s.side x).port.frame = none →
        t.out = [] ∧ (t.side x) = { s.side x with
          port := { (s.side x).port with linkLost := none }, sup := (t.side x).sup, gain := (t.side x).gain }) ∧
      ((s.side x).port.frame.isSome = true →
        (t.side x) = { s.side x with
          held := none, port := { (s.side x).port with frame := none, linkLost := none },
          stats := { (s.side x).stats with collecting := none }, ring := (s.side x).ring.discard,
          counters := { (s.side x).counters with triggersLate := (t.side x).counters.triggersLate },
          sup := (t.side x).sup, gain := (t.side x).gain } ∧
        ((s.side x).held = none → t.out = [] ∧ (t.side x).counters = (s.side x).counters) ∧
        (∀ h, (s.side x).held = some h →
          (duration s.now h ≤ 2000 → t.out = [.pulse x] ∧
            (t.faults x).get .triggerLate = (goneIn (s.faults x) .triggerLate).get .triggerLate ∧
            (t.side x).counters = (s.side x).counters) ∧
          (2000 < duration s.now h → t.out = [] ∧ (t.faults x).get .triggerLate = .active ∧
            (t.side x).counters.triggersLate = satInc (s.side x).counters.triggersLate)))

/-- With power and a completion waiting for the Exposure Controller: the run and the night state follow E_frame
against E_on or E_off, changing at 30; entry to DAY empties the glare table and publishes an all-4,096 map; the
metered tiles are those of either window in force, without those of CONFIRMED boxes in NIGHT; with none, the
exposure is held, otherwise E_cmd becomes the raw exposure clamped to one step and then to the limits, and
SET_EXPOSURE is admitted exactly if it changed. Nothing else changes. [R43, R44, R45, R46, R48, R49] -/
def Obligations.ExposureCompletionMetersAndCommands : Prop :=
  ∀ (x : Side) (c : Completed) (rest : List Completed) (s : State), s.powered = true →
    (s.side x).exposure.waiting = c :: rest →
    ∃ t, exec (.exposureCompletionTaken x) s = .next t ∧ OneSide x s t ∧ t.reports = s.reports ∧ t.handed = [] ∧
      (let d := s.side x
       let e := d.exposure
       let meets := (e.night = .day ∧ e.limits.eOn ≤ c.exposure) ∨ (e.night = .night ∧ c.exposure ≤ e.limits.eOff)
       let turns := meets ∧ e.nightRun + 1 = 30
       let nightNow := (t.side x).exposure.night
       let metered := fun i => (intersects i d.geometry.mainInForce || intersects i d.geometry.wideInForce) &&
         !(nightNow == .night && d.glare.table.any fun g => g.state == .confirmed && insideBox i g.box)
       let tiles := (List.range 192).filter metered
       let mean := (tiles.map fun i => ((c.tiles[i]?).map TileSummary.mean).getD 0).sum / tiles.length
       let raw := if mean = 0 then e.limits.emax else c.exposure * e.limits.target / mean
       let step := max 1 (e.commanded / 8)
       let new := if tiles = [] then e.commanded
         else clampNat e.limits.emin e.limits.emax (clampNat (e.commanded - step) (e.commanded + step) raw)
       (turns → (nightNow = .day ↔ e.night = .night) ∧ (t.side x).exposure.nightRun = 0) ∧
       (¬turns → nightNow = e.night ∧ (meets → (t.side x).exposure.nightRun = e.nightRun + 1) ∧
         (¬meets → (t.side x).exposure.nightRun = 0)) ∧
       (t.side x).exposure = { e with
         waiting := rest, night := nightNow, nightRun := (t.side x).exposure.nightRun, commanded := new } ∧
       (e.night = .night ∧ nightNow = .day →
         (t.side x).glare = { d.glare with table := [], regions := [], formed := 0, kept := 0 } ∧
         (t.side x).gain = ⟨unityGains, d.gain.version + 1⟩) ∧
       (¬(e.night = .night ∧ nightNow = .day) → (t.side x).glare = d.glare ∧ (t.side x).gain = d.gain) ∧
       (t.side x).channel =
         (if new = e.commanded then d.channel else ((submit x (.setExposure new) s).side x).channel) ∧
       (t.side x) = { d with
         exposure := (t.side x).exposure, glare := (t.side x).glare, gain := (t.side x).gain,
         channel := (t.side x).channel })

/-- With power and a completion waiting for the Glare Tracker: in DAY the region list and both counts are emptied and
nothing else changes. In NIGHT the hot tiles are those whose hot count and peak reach the minimum and the latched
level; the regions formed from them part the hot tiles, each is joined through shared edges and closed under them,
with its box, peak, lowest tile and place in region order; the first 12 are kept. The entries take regions, are
sighted or missed, the regions left are offered entries, and the walk gives the grants; the two counters count the
regions removed or not tracked and the denials; the version advances by one and every gain is 4,096 unless the
view is NORMAL, where each tile's gain is ramped toward the target of the greatest peak among the GRANTED entries
whose box holds it; only CONFIRMED entries hold a grant; everything else is as before. (What association,
sightings, offers and the walk do: EntriesMoveByTheirSightingsAndMisses and
GrantedTilesStayUnderTheCapOfEachWindow.) [R54, R55, R56, R57, R66, R69, R70, R75, R76, R77] -/
def Obligations.GlareCompletionTracksInNightOnly : Prop :=
  (∀ (x : Side) (c : Completed) (rest : List Completed) (s : State), s.powered = true → GlareLaw s →
    (s.side x).glare.waiting = c :: rest →
    ∃ t, exec (.glareCompletionTaken x) s = .next t ∧ OneSide x s t ∧ t.reports = s.reports ∧ t.out = [] ∧
      t.handed = [] ∧
      (let d := s.side x
       (d.exposure.night = .day →
         t.side x = { d with glare := { d.glare with waiting := rest, regions := [], formed := 0, kept := 0 } }) ∧
       (d.exposure.night = .night →
         let g := (t.side x).glare
         let formed := formRegions c (hotTiles d.glare.settings.minHot c)
         let taken := associate d.glare.table (formed.take 12)
         let made := taken.2.foldl offerEntry ⟨applySightings taken.1, d.glare.counter, [], 0⟩
         let walk := grantWalk d.geometry.mainInForce d.geometry.wideInForce d.glare.settings.cap made.table
         g = { d.glare with
           table := applyGrants walk made.table, counter := made.counter, regions := made.regions,
           formed := formed.length, kept := min 12 formed.length, waiting := rest } ∧
         (t.side x).counters = { d.counters with
           regionsOverflowed :=
             satAdd d.counters.regionsOverflowed (formed.length - min 12 formed.length + made.untracked),
           grantsDenied :=
             satAdd d.counters.grantsDenied (g.table.filter fun e => e.grant == .denied).length } ∧
         t.side x = { d with glare := g, gain := (t.side x).gain, counters := (t.side x).counters } ∧
         (∀ e ∈ g.table, e.grant ≠ .none → e.state = .confirmed) ∧
         (t.side x).gain.version = d.gain.version + 1 ∧
         (d.sup.view ≠ .normal → (t.side x).gain.gains = unityGains) ∧
         (d.sup.view = .normal → d.gain.gains.length = 192 → ∀ i, i < 192 →
           let peak := ((g.table.filter fun e => e.grant == .granted && insideBox i e.box).map GlareEntry.peak).max?
           let target := match peak with
             | none => 4096
             | some p => min 4096 (max d.glare.settings.floor (4096 * d.glare.settings.ceiling / p))
           let old := d.gain.gains.getD i 0
           (t.side x).gain.gains[i]? = some
             (if target < old then max target (old - d.glare.settings.rampDown)
              else min target (old + d.glare.settings.rampUp)))))) ∧
  (∀ (minHot : Nat) (c : Completed) (i : Nat), i ∈ hotTiles minHot c ↔
    i < 192 ∧ ∃ u, c.tiles[i]? = some u ∧ minHot ≤ u.hot ∧ c.glareLevel ≤ u.peak) ∧
  ∀ (minHot : Nat) (c : Completed),
    let hot := hotTiles minHot c
    let regions := formRegions c hot
    let peakOf := fun i => ((c.tiles[i]?).map TileSummary.peak).getD 0
    let joined := fun i j => (i / 16 = j / 16 ∧ (i + 1 = j ∨ j + 1 = i)) ∨ i + 16 = j ∨ j + 16 = i
    (regions.flatMap Region.tiles).Perm hot ∧
    regions.Pairwise (fun a b => b.peak < a.peak ∨ (a.peak = b.peak ∧ a.first < b.first)) ∧
    ∀ r ∈ regions, r.matched = none ∧ r.first ∈ r.tiles ∧
      (∀ i ∈ r.tiles, r.first ≤ i ∧ peakOf i ≤ r.peak ∧ insideBox i r.box = true ∧
        (∀ j ∈ hot, joined i j → j ∈ r.tiles) ∧
        ∀ j ∈ r.tiles, Relation.ReflTransGen (fun a b => joined a b ∧ b ∈ r.tiles) i j) ∧
      (∃ i ∈ r.tiles, peakOf i = r.peak) ∧
      (∃ i ∈ r.tiles, i % 16 = r.box.column0) ∧ (∃ i ∈ r.tiles, i % 16 = r.box.column1) ∧
      (∃ i ∈ r.tiles, i / 16 = r.box.row0) ∧ (∃ i ∈ r.tiles, i / 16 = r.box.row1)

/-- For every two windows, cap and glare table with distinct identifiers and no grants: the walk takes the CONFIRMED
entries in descending peak, those of equal peak in ascending identifier; an entry is GRANTED if, for each window,
the window's tiles in boxes granted before it or in its own box are at most the window's tiles times the cap,
divided by 100, and DENIED otherwise, a denial targeting nothing; the other entries hold no grant. After the walk
the number of tiles of each window that lie in the box of a GRANTED entry is at most that cap, and nothing but the
grants has changed. [R68, R69] -/
def Obligations.GrantedTilesStayUnderTheCapOfEachWindow : Prop :=
  ∀ (main wide : Window) (cap : Nat) (table : List GlareEntry), (table.map GlareEntry.ident).Nodup →
    (∀ e ∈ table, e.grant = .none) →
    let after := applyGrants (grantWalk main wide cap table) table
    let targeted := fun i => after.any fun e => e.grant == .granted && insideBox i e.box
    let under := fun (w : Window) (tiles : Nat → Bool) =>
      decide (((List.range 192).filter fun i => intersects i w && tiles i).length ≤
        ((List.range 192).filter fun i => intersects i w).length * cap / 100)
    (under main targeted = true ∧ under wide targeted = true) ∧
    ∃ (grant : Nat → Grant) (order : List GlareEntry),
      after = table.map (fun e => { e with grant := grant e.ident }) ∧
      (∀ e ∈ table, e.state ≠ .confirmed → grant e.ident = .none) ∧
      order.Perm (table.filter fun e => e.state == .confirmed) ∧
      order.Pairwise (fun a b => b.peak < a.peak ∨ (a.peak = b.peak ∧ a.ident < b.ident)) ∧
      ∀ before e later, order = before ++ e :: later →
        let tiles := fun i =>
          insideBox i e.box || before.any fun f => grant f.ident == .granted && insideBox i f.box
        grant e.ident = if under main tiles && under wide tiles then .granted else .denied

/-- A sighted entry takes the region's box and peak; a CANDIDATE is CONFIRMED at its third sighting and removed at a
miss; a CONFIRMED one stays at a sighting and is FADING with miss count 1 at a miss; a FADING one is CONFIRMED
with miss count 0 at a sighting and removed at its sixth miss. An entry overlaps a region by the region's tiles in
its box grown by one tile; it takes, of the untaken regions it overlaps, that of the greatest overlap, then higher
peak, then lower first tile; entries choose in table order, and a region taken is marked with the identifier.
Those that stay are one completion older (to 65,535) and without a grant. A region not taken is offered a new
CANDIDATE at the tail of a table of fewer than 12, and is counted as untracked otherwise; the identifier is the
first free one after the counter, from 255 on to 1. [R58, R60, R61, R62, R63, R64, R65, R66, R67] -/
def Obligations.EntriesMoveByTheirSightingsAndMisses : Prop :=
  (∀ (e : GlareEntry) (r : Region),
    ((sighted e r).box = r.box ∧ (sighted e r).peak = r.peak ∧ (sighted e r).ident = e.ident) ∧
    (e.state = .candidate → e.seen ≤ 2 →
      missedEntry e = none ∧
      (e.seen < 2 → (sighted e r).state = .candidate ∧ (sighted e r).seen = e.seen + 1) ∧
      (e.seen = 2 → (sighted e r).state = .confirmed ∧ (sighted e r).seen = 3 ∧ (sighted e r).missed = 0)) ∧
    (e.state = .confirmed →
      missedEntry e = some { e with state := .fading, missed := 1 } ∧
      (sighted e r).state = .confirmed ∧ (sighted e r).seen = 3 ∧ (sighted e r).missed = 0) ∧
    (e.state = .fading →
      ((sighted e r).state = .confirmed ∧ (sighted e r).missed = 0) ∧
      (e.missed < 5 → missedEntry e = some { e with missed := e.missed + 1 }) ∧
      (e.missed = 5 → missedEntry e = none))) ∧
  (∀ (box : Box) (r : Region), (∀ i ∈ r.tiles, i < 192) →
    overlap box r = (r.tiles.filter fun i => decide (box.column0 ≤ i % 16 + 1 ∧ i % 16 ≤ box.column1 + 1 ∧
      box.row0 ≤ i / 16 + 1 ∧ i / 16 ≤ box.row1 + 1)).length) ∧
  (∀ (box : Box) (regions : List Region),
    (bestRegion box regions = none ↔ ∀ r ∈ regions, r.matched = none → overlap box r = 0) ∧
    ∀ r, bestRegion box regions = some r →
      r ∈ regions ∧ r.matched = none ∧ 1 ≤ overlap box r ∧
      ∀ q ∈ regions, q.matched = none → overlap box q < overlap box r ∨
        (overlap box q = overlap box r ∧ (q.peak < r.peak ∨ (q.peak = r.peak ∧ r.first ≤ q.first)))) ∧
  (∀ regions : List Region, associate [] regions = ([], regions)) ∧
  (∀ (e : GlareEntry) (later : List GlareEntry) (regions : List Region),
    associate (e :: later) regions =
      (let taken := bestRegion e.box regions
       let others := associate later (match taken with
         | none => regions
         | some r => regions.map fun q => if q.first = r.first then { q with matched := some e.ident } else q)
       ((e, taken) :: others.1, others.2))) ∧
  (∀ entries : List (GlareEntry × Option Region), applySightings entries = entries.filterMap fun p =>
    (match p.2 with | some r => some (sighted p.1 r) | none => missedEntry p.1).map fun (e : GlareEntry) =>
      { e with age := if e.age < 65535 then e.age + 1 else e.age, grant := .none }) ∧
  (∀ (a : Creation) (r : Region),
    (r.matched.isSome = true → offerEntry a r = { a with regions := a.regions ++ [r] }) ∧
    (r.matched = none → 12 ≤ a.table.length →
      offerEntry a r = { a with regions := a.regions ++ [r], untracked := a.untracked + 1 }) ∧
    (r.matched = none → a.table.length < 12 → a.counter ≤ 255 →
      ∃ ident n, 1 ≤ n ∧ n ≤ 12 ∧ ident = (a.counter + n - 1) % 255 + 1 ∧
        (∀ e ∈ a.table, e.ident ≠ ident) ∧
        (∀ m, 1 ≤ m → m < n → ∃ e ∈ a.table, e.ident = (a.counter + m - 1) % 255 + 1) ∧
        offerEntry a r = { a with
          table := a.table ++ [⟨ident, .candidate, 1, 0, r.box, r.peak, .none, 0⟩], counter := ident,
          regions := a.regions ++ [{ r with matched := some ident }] }))

/-- For a queue without two transactions of one kind: SET_EXPOSURE or ADJUST_LENGTH replaces the pending one of its
kind in its position, otherwise joins a queue of fewer than 4 at the tail; STREAM_OFF leaves itself alone pending;
STREAM_ON first removes a pending STREAM_OFF; the queue then again holds no two of one kind. A transaction
submitted while one is in flight joins the queue so; submitted to an idle channel it, or the head of the queue so
formed, is dispatched at once, with the bytes of R208. With power: where nothing is in flight and the queue begins
with a transaction, DISPATCH takes it from the queue, sends its bytes under the attempt counter plus one with the
retry flag clear, and arms the timer for 2,000 µs later; otherwise it changes nothing. [R22, R23, R24, R208] -/
def Obligations.TransactionsAreAdmittedAndDispatched : Prop :=
  (∀ (q : List Transaction) (u : Transaction), q.Pairwise (fun a b => sameKind a b = false) →
    (admitQueue u q).Pairwise (fun a b => sameKind a b = false) ∧
    (u = .streamOff → admitQueue u q = [.streamOff]) ∧
    ((∃ e, u = .setExposure e) ∨ (∃ n, u = .adjustLength n) →
      (∀ a b old, q = a ++ old :: b → sameKind u old = true → admitQueue u q = a ++ u :: b) ∧
      (q.length < 4 → (∀ v ∈ q, sameKind u v = false) → admitQueue u q = q ++ [u])) ∧
    (∀ m p, u = .streamOn m p →
      let kept := q.filter fun v => v != .streamOff
      (∀ a b old, kept = a ++ old :: b → sameKind u old = true → admitQueue u q = a ++ u :: b) ∧
      (kept.length < 4 → (∀ v ∈ kept, sameKind u v = false) → admitQueue u q = kept ++ [u]))) ∧
  (∀ (x : Side) (u : Transaction) (s : State),
    let ch := (s.side x).channel
    let waiting := s.setSide x { s.side x with channel := { ch with queue := admitQueue u ch.queue } }
    (ch.inFlight.isSome = true → submit x u s = waiting) ∧
    (ch.inFlight = none → ch.queue = [] →
      submit x u s = { s.setSide x { s.side x with
          channel := ⟨[], some ⟨u, ch.attempt + 1, false⟩, some (after s.now 2000), ch.attempt + 1⟩ } with
        out := s.out ++ [.transaction x (transactionBytes u (ch.attempt + 1))] }) ∧
    (ch.inFlight = none → ∀ q rest, admitQueue u ch.queue = q :: rest →
      submit x u s = { s.setSide x { s.side x with
          channel := ⟨rest, some ⟨q, ch.attempt + 1, false⟩, some (after s.now 2000), ch.attempt + 1⟩ } with
        out := s.out ++ [.transaction x (transactionBytes q (ch.attempt + 1))] })) ∧
  (∀ (u : Transaction) (n : Byte), transactionBytes u n = match u with
    | .streamOn mode p => [1, n, if mode = .follow then 1 else 0] ++ le 2 p
    | .streamOff => [2, n]
    | .setExposure e => [3, n] ++ le 2 e
    | .adjustLength k => [4, n] ++ leInt 1 k) ∧
  ∀ (x : Side) (s : State), s.powered = true →
    (∀ q rest, (s.side x).channel.inFlight = none → (s.side x).channel.queue = q :: rest →
      let n := (s.side x).channel.attempt + 1
      exec (.dispatch x) s = .next { s.setSide x { s.side x with
          channel := ⟨rest, some ⟨q, n, false⟩, some (after s.now 2000), n⟩ } with
        out := [.transaction x (transactionBytes q n)],
        handed := [] }) ∧
    ((s.side x).channel.inFlight.isSome = true ∨ (s.side x).channel.queue = [] →
      exec (.dispatch x) s = .next { s with out := [], handed := [] })

/-- With power and an ACK that carries the attempt number of the transaction in flight: the timer is disarmed and the
transaction gone, or the oldest pending one is in flight under the next attempt number with its timer armed;
CAMERA_CONTROL_FAIL is told gone; QUIESCING ends if this leaves the part at rest. Nothing else changes but the
view and map that the set calls for. [R24, R25, R181] -/
def Obligations.AckEndsTheTransactionInFlight : Prop :=
  ∀ (x : Side) (attempt : Byte) (f : Flight) (s : State), s.powered = true →
    (s.side x).channel.inFlight = some f → f.attempt = attempt → ViewLaw s →
    ∃ t, exec (.ackArrival x 0 attempt) s = .next t ∧ OneSideAndLink x s t ∧ Reported s t ∧ HandedOn .plain [] s t ∧
      ViewFollows x s t ∧
      MapFollows x s t ∧ t.link = restedLink s t ∧ t.faults x = goneIn (s.faults x) .cameraControlFail ∧
      (t.side x) = { s.side x with channel := (t.side x).channel, sup := (t.side x).sup, gain := (t.side x).gain } ∧
      (t.side x).sup = { (s.side x).sup with view := (t.side x).sup.view, faults := t.faults x } ∧
      (let ch := (s.side x).channel
       (ch.queue = [] → t.out = [] ∧ (t.side x).channel = ⟨[], none, none, ch.attempt⟩) ∧
       (∀ q rest, ch.queue = q :: rest →
         t.out = [.transaction x (transactionBytes q (ch.attempt + 1))] ∧
         (t.side x).channel = ⟨rest, some ⟨q, ch.attempt + 1, false⟩, some (after s.now 2000), ch.attempt + 1⟩))

/-- With power and a transaction in flight, for a NACK that carries its attempt number and for the timer's expiry
alike: with the retry flag clear the same transaction is sent again under the next number with the flag set,
counted as a retry, the queue and set untouched; with the flag set it is dropped, CAMERA_CONTROL_FAIL is raised,
and the oldest pending transaction, if any, goes out; QUIESCING ends if this leaves the part at rest. [R24, R26,
R27, R181] -/
def Obligations.FailureIsRetriedOnceAndThenDropped : Prop :=
  ∀ (x : Side) (f : Flight) (s : State) (c : Instr), s.powered = true → (s.side x).channel.inFlight = some f →
    (c = .nackArrival x 1 f.attempt ∨
      (c = .transactionTimerExpiry x ∧ due (s.side x).channel.timer s.now = true)) → ViewLaw s →
    ∃ t, exec c s = .next t ∧ OneSideAndLink x s t ∧ Reported s t ∧ HandedOn .plain [] s t ∧
      ViewFollows x s t ∧ MapFollows x s t ∧
      t.link = restedLink s t ∧
      (t.side x).sup = { (s.side x).sup with view := (t.side x).sup.view, faults := t.faults x } ∧
      (t.side x) = { s.side x with
        channel := (t.side x).channel, counters := (t.side x).counters, sup := (t.side x).sup,
        gain := (t.side x).gain } ∧
      (let ch := (s.side x).channel
       (f.retried = false →
         t.faults x = s.faults x ∧
         (t.side x).counters = { (s.side x).counters with cameraRetries := satInc (s.side x).counters.cameraRetries } ∧
         t.out = [.transaction x (transactionBytes f.transaction (ch.attempt + 1))] ∧
         (t.side x).channel =
           ⟨ch.queue, some ⟨f.transaction, ch.attempt + 1, true⟩, some (after s.now 2000), ch.attempt + 1⟩) ∧
       (f.retried = true →
         t.faults x = raisedIn (s.faults x) .cameraControlFail ∧ (t.side x).counters = (s.side x).counters ∧
         (ch.queue = [] → t.out = [] ∧ (t.side x).channel = ⟨[], none, none, ch.attempt⟩) ∧
         (∀ q rest, ch.queue = q :: rest →
           t.out = [.transaction x (transactionBytes q (ch.attempt + 1))] ∧
           (t.side x).channel = ⟨rest, some ⟨q, ch.attempt + 1, false⟩, some (after s.now 2000), ch.attempt + 1⟩)))

/-- With power, VSYNC due and the side not OFF: the grid advances by the period; each value of both displayed windows
moves toward its window in force by at most 24; the ring chooses; the output frame number advances by one. The
frame is an image of the SHOWING slot in NORMAL and DEGRADED, with the display rows of the markers inside the
displayed MAIN window, and a pattern in STARTING, in BLANKED and where no slot is SHOWING. Its tag line has the 17
bytes of R205, the sensor frame number, capture time, E_frame and version those of the SHOWING slot's record for
an image and 0 for a pattern; number, capture time (none for a pattern) and CRC join a history of at most 8, an
older one counted as never echoed; the first after a start arms the echo timer for 3 × P. A fresh frame disarms
the start timer, makes START_TIMEOUT HELD and DISPLAY_REPEAT gone and ends STARTING; a repeat at the limit raises
DISPLAY_REPEAT; a repeat is counted. Nothing else changes but the view and map that the set calls for, and what
changed in the set is handed on. [R4, R109, R111, R117, R120, R122, R126, R127, R146, R205] -/
def Obligations.VsyncShowsOneNumberedFrame : Prop :=
  ∀ (x : Side) (s : State), s.powered = true → (s.side x).vsync.due s.now = true → (s.side x).sup.view ≠ .off →
    ViewLaw s → (s.side x).display.history.length ≤ 8 →
    ∃ t, exec (.vsyncExpiry x) s = .next t ∧ OneSide x s t ∧ t.out = [] ∧ Reported s t ∧ HandedOn .plain [] s t ∧
      MapFollows x s t ∧
      (let d := s.side x
       let e := t.side x
       let n := d.display.number + 1
       let fresh := d.ring.outcome = .fresh
       let image := (e.sup.view = .normal ∨ e.sup.view = .degraded) ∧ e.ring.has .showing = true
       let move := fun (v target : Nat) =>
         if max v target - min v target ≤ 24 then target else if v < target then v + 24 else v - 24
       let toward := fun (v target : Window) =>
         (⟨move v.x target.x, move v.y target.y, move v.w target.w, move v.h target.h⟩ : Window)
       let main := toward d.geometry.mainShown d.geometry.mainInForce
       let wide := toward d.geometry.wideShown d.geometry.wideInForce
       let lines := d.geometry.markers.filterMap fun m => m.bind fun y =>
         if main.y ≤ y ∧ y < main.y + main.h then some ((y - main.y) * 520 / main.h) else none
       e.vsync = { d.vsync with next := after d.vsync.next d.vsync.period } ∧
       e.geometry = { d.geometry with mainShown := main, wideShown := wide } ∧
       e.ring = d.ring.choose ∧
       (∃ (shown : Option FrameRecord) (fields : List Byte) (content : Content),
         (image → shown = e.ring.shownRecord) ∧ (¬image → shown = none) ∧
         fields = le 1 (sideCode x) ++ le 2 n.toNat ++ le 2 ((shown.map fun r => r.number.toNat).getD 0) ++
           le 4 ((shown.map fun r => r.captureTime.toNat % 2 ^ 32).getD 0) ++
           le 2 ((shown.map FrameRecord.exposure).getD 0) ++ le 1 (viewCode e.sup.view) ++
           le 1 ((if d.geometry.overrides.inspect.isSome then 1 else 0) +
             (if d.geometry.overrides.maneuver then 2 else 0) +
             (if d.geometry.overrides.turnFollow.isSome then 4 else 0)) ++
           le 2 ((shown.map fun r => r.version.toNat).getD 0) ∧
         (e.sup.view = .blanked → content = .blankedPattern) ∧
         (¬image → e.sup.view ≠ .blanked → content = .startingPattern) ∧
         (image → ∀ slot, e.ring.find .showing = some slot →
           content = .image slot.rows main wide lines (decide (e.sup.view = .degraded))) ∧
         e.display = { d.display with
           number := n, begun := true,
           echoTimer := if d.display.begun then d.display.echoTimer
             else some (after s.now (3 * s.timing.framePeriod)),
           history := (if d.display.history.length < 8 then d.display.history else d.display.history.drop 1) ++
             [⟨n, shown.map FrameRecord.captureTime, crc16 fields⟩],
           sending := some ⟨fields ++ le 2 (crc16 fields).toNat, content⟩ }) ∧
       e.counters = { d.counters with
         repeated := if d.ring.outcome = .repeated then satInc d.counters.repeated else d.counters.repeated,
         neverEchoed := if d.display.history.length < 8 then d.counters.neverEchoed
           else satInc d.counters.neverEchoed } ∧
       e.sup = { d.sup with
         view := e.sup.view, faults := t.faults x,
         startTimer := if d.ring.outcome = .fresh then none else d.sup.startTimer } ∧
       (fresh → e.sup.view = evaluated (t.faults x) ∧
         ∀ k, (t.faults x).get k =
           if k = .displayRepeat ∨ k = .startTimeout then (goneIn (s.faults x) k).get k else (s.faults x).get k) ∧
       (d.ring.outcome = .repeated → t.faults x =
         (if d.display.repeatLimit ≤ d.ring.choose.repeatRun then raisedIn (s.faults x) .displayRepeat
          else s.faults x)) ∧
       (d.ring.outcome = .noFrame → t.faults x = s.faults x) ∧
       (¬fresh → ViewFollows x s t) ∧
       e = { d with
         vsync := e.vsync, geometry := e.geometry, ring := e.ring, display := e.display, sup := e.sup, gain := e.gain,
         counters := e.counters })

/-- For a ring that keeps its law: a frame start leaves exactly one slot WRITING, holding the new frame record, and no
READY or SHOWING slot changed; a good end makes the WRITING slot READY and frees an older READY one; a frame given
up frees the WRITING slot; at a VSYNC a READY frame becomes SHOWING with use count 1 and the old SHOWING slot
FREE, without one the SHOWING frame's use count rises to at most 65,535, and with neither nothing changes. The
repeat run is the use count minus 1. [R113, R114, R115, R116, R117] -/
def Obligations.RingMovesItsSlotsAsStated : Prop :=
  ∀ r : Ring, (∀ st, st ≠ SlotState.free → r.count st ≤ 1) →
    (∀ slot ∈ [r.slot0, r.slot1, r.slot2], slot.record.isSome = (slot.state != .free)) →
    (∀ rec, (r.openSlot rec).find .writing = some ⟨.writing, some rec, []⟩ ∧
      (r.openSlot rec).count .writing = 1 ∧
      (r.openSlot rec).find .ready = r.find .ready ∧ (r.openSlot rec).find .showing = r.find .showing) ∧
    (∀ w, r.find .writing = some w →
      r.complete.find .ready = some { w with state := .ready } ∧ r.complete.count .ready = 1 ∧
      r.complete.count .writing = 0 ∧ r.complete.find .showing = r.find .showing) ∧
    (r.discard.count .writing = 0 ∧ r.discard.find .ready = r.find .ready ∧
      r.discard.find .showing = r.find .showing) ∧
    (∀ w f, r.find .ready = some w → w.record = some f →
      r.outcome = .fresh ∧ r.choose.shownRecord = some { f with useCount := 1 } ∧ r.choose.count .ready = 0 ∧
      r.choose.count .showing = 1 ∧ r.choose.find .writing = r.find .writing ∧ r.choose.repeatRun = 0) ∧
    (∀ f, r.find .ready = none → r.shownRecord = some f →
      r.outcome = .repeated ∧ r.choose.shownRecord = some { f with useCount := min 65535 (f.useCount + 1) } ∧
      r.choose.find .writing = r.find .writing ∧ r.choose.repeatRun = min 65535 (f.useCount + 1) - 1) ∧
    (r.find .ready = none → r.find .showing = none → r.outcome = .noFrame ∧ r.choose = r)

/-- With power on a side that is not OFF: the echo is counted, the timer armed for 3 × P, the receiver emptied and
ECHO_LOST told gone; an echo of another side raises SIDE_CROSSED and is not used further; otherwise SIDE_CROSSED
is told gone, an unknown number is counted, and a found entry leaves the history with the older ones, which are
counted as never echoed; the match and mismatch runs follow the CRCs and, where the entry has a capture time, the
budget runs follow the latency. On an OFF side only the receiver is emptied. (That the command empties the
receiver, on an OFF side too: log 13.) [R128, R129, R130, R131, R133, R206] -/
def Obligations.EchoArrivalIsCountedLookedUpAndChecked : Prop :=
  ∀ (x : Side) (code : Byte) (number crc : Word16) (s : State), s.powered = true → FaultLaw s → ViewLaw s →
    (let d := s.side x
     let empty : Display := { d.display with received := [], idleTimer := none }
     (d.sup.view = .off → exec (.echoArrival x code number crc) s = .next
        { s.setSide x { d with display := empty } with out := [], handed := [] }) ∧
     (d.sup.view ≠ .off →
       ∃ t, exec (.echoArrival x code number crc) s = .next t ∧ OneSide x s t ∧ t.out = [] ∧ Reported s t ∧
         HandedOn .plain [] s t ∧ ViewFollows x s t ∧ MapFollows x s t ∧
         (t.side x).sup = { (s.side x).sup with view := (t.side x).sup.view, faults := t.faults x } ∧
         (∀ k, k ∉ [FaultKind.echoLost, .sideCrossed, .tagMismatch, .latencyOver] →
           (t.faults x).get k = (s.faults x).get k) ∧
         (let e := t.side x
          let timed : Display := { empty with echoTimer := some (after s.now (3 * s.timing.framePeriod)) }
          let counted := { d.counters with echoes := satInc d.counters.echoes }
          e = { d with display := e.display, counters := e.counters, sup := e.sup, gain := e.gain } ∧
          (t.faults x).get .echoLost = .absent ∧
          (code.toNat ≠ sideCode x →
            e.display = timed ∧ e.counters = counted ∧ (t.faults x).get .sideCrossed = .active ∧
            (t.faults x).get .tagMismatch = (s.faults x).get .tagMismatch ∧
            (t.faults x).get .latencyOver = (s.faults x).get .latencyOver) ∧
          (code.toNat = sideCode x →
            (t.faults x).get .sideCrossed = (goneIn (s.faults x) .sideCrossed).get .sideCrossed ∧
            ((∀ h ∈ d.display.history, h.number ≠ number) →
              e.display = timed ∧
              e.counters = { counted with echoesUnknown := satInc d.counters.echoesUnknown } ∧
              (t.faults x).get .tagMismatch = (s.faults x).get .tagMismatch ∧
              (t.faults x).get .latencyOver = (s.faults x).get .latencyOver) ∧
            (∀ older found newer, d.display.history = older ++ found :: newer →
              (∀ h ∈ older, h.number ≠ number) → found.number = number →
              let agrees := decide (found.crc = crc)
              let mismatch := if agrees then 0 else min 3 (d.display.mismatchRun + 1)
              let matches_ := if agrees then min 10 (d.display.matchRun + 1) else 0
              let late := found.captureTime.any fun c => decide (d.display.latencyBudget < duration s.now c)
              let within := found.captureTime.any fun c => decide (duration s.now c ≤ d.display.latencyBudget)
              e.display = { timed with
                history := newer, mismatchRun := mismatch, matchRun := matches_,
                overRun := if late then min 2 (d.display.overRun + 1) else if within then 0 else d.display.overRun,
                withinRun := if within then min 10 (d.display.withinRun + 1) else if late then 0
                  else d.display.withinRun } ∧
              e.counters = { counted with
                neverEchoed := satAdd d.counters.neverEchoed older.length,
                tagMismatches := if agrees then d.counters.tagMismatches else satInc d.counters.tagMismatches } ∧
              (t.faults x).get .tagMismatch =
                (if mismatch = 3 then .active else if matches_ = 10 then .absent
                 else (s.faults x).get .tagMismatch) ∧
              (t.faults x).get .latencyOver =
                (if late && decide (2 ≤ d.display.overRun + 1) then .active
                 else if within && decide (10 ≤ d.display.withinRun + 1) then .absent
                 else (s.faults x).get .latencyOver))))))

/-- With power: a byte other than 0xEC with no record begun changes nothing; 0xEC, or a byte inside a record of fewer
than five, joins it and arms the idle timer for 1,000 µs later; the sixth byte does what the arrival of the echo
with the record's side code, number and CRC does; the idle timer's expiry discards the record and changes nothing
else. (That a record is also begun while the side is OFF is the model's reading, log 13.) [R128, R206] -/
def Obligations.EchoRecordBytesMakeAnEcho : Prop :=
  ∀ (x : Side) (b : Byte) (s : State), s.powered = true →
    (let p := (s.side x).display
     (p.received = [] → b ≠ 0xEC →
        exec (.echoRecordByteArrival x b) s = .next { s with out := [], handed := [] }) ∧
     ((p.received = [] ∧ b = 0xEC) ∨ (p.received ≠ [] ∧ p.received.length < 5) →
        exec (.echoRecordByteArrival x b) s = .next { s.setSide x { s.side x with
          display := { p with received := p.received ++ [b], idleTimer := some (after s.now 1000) } } with
          out := [], handed := [] }) ∧
     (∀ b0 code n0 n1 c0, p.received = [b0, code, n0, n1, c0] →
        exec (.echoRecordByteArrival x b) s =
          exec (.echoArrival x code (BitVec.ofNat 16 (n0.toNat + 256 * n1.toNat))
            (BitVec.ofNat 16 (c0.toNat + 256 * b.toNat))) s) ∧
     (due p.idleTimer s.now = true →
        exec (.echoIdleTimerExpiry x) s = .next { s.setSide x { s.side x with
          display := { p with received := [], idleTimer := none } } with out := [], handed := [] }))

/-- With power and the timer due: ECHO_TIMER_EXPIRY raises ECHO_LOST and START_TIMER_EXPIRY raises START_TIMEOUT on
the side, the timer is disarmed, a side that is not OFF goes BLANKED by START_TIMEOUT, one transition is handed on
exactly if the kind was not ACTIVE, and nothing else changes but the view and map that the set calls for. For
every list of transitions: each is in one record of its direction, scope and flag class; a record has 1 to 4
kinds, ascending; the records stand in the three parts of R157, then by scope and flag class, and a record that
more of its group follow has four kinds, all lower, and the more flag, no other; a kind cleared that the list also
raises under its scope is of the third part (as its own group: log 33). A record offered to fewer than 32 is
stored last under the next number, which advances, with the pending missed count, which becomes 0, the time and
both views; offered to 32 it is lost and counted up to 7. [R132, R145, R147, R156, R157, R158, R159] -/
def Obligations.StartAndEchoTimersRaiseTheirKinds : Prop :=
  (∀ (x : Side) (s : State), s.powered = true → ViewLaw s →
    (due (s.side x).display.echoTimer s.now = true →
      ∃ t, exec (.echoTimerExpiry x) s = .next t ∧ OneSide x s t ∧ Reported s t ∧ ViewFollows x s t ∧ MapFollows x s t ∧
        t.out = [] ∧ t.faults x = raisedIn (s.faults x) .echoLost ∧
        t.handed = (if (s.faults x).get .echoLost = .active then []
          else [⟨.echoLost, .raised, sideScope x, .plain⟩]) ∧
        t.side x = { s.side x with
          display := { (s.side x).display with echoTimer := none },
          sup := { (s.side x).sup with view := (t.side x).sup.view, faults := t.faults x },
          gain := (t.side x).gain }) ∧
    (due (s.side x).sup.startTimer s.now = true →
      ∃ t, exec (.startTimerExpiry x) s = .next t ∧ OneSide x s t ∧ Reported s t ∧ ViewFollows x s t ∧
        MapFollows x s t ∧ t.out = [] ∧ t.faults x = raisedIn (s.faults x) .startTimeout ∧
        ((s.side x).sup.view ≠ .off → (t.side x).sup.view = .blanked) ∧
        t.handed = (if (s.faults x).get .startTimeout = .active then []
          else [⟨.startTimeout, .raised, sideScope x, .plain⟩]) ∧
        t.side x = { s.side x with
          sup := { (s.side x).sup with view := (t.side x).sup.view, faults := t.faults x, startTimer := none },
          gain := (t.side x).gain })) ∧
  (∀ ts : List Transition,
    let part := fun (direction : Direction) (scope : Scope) (k : FaultKind) => (match direction with
      | .raised => 1
      | .cleared => if ts.any fun u => u.direction == .raised && u.kind == k && u.scope == scope then 2 else 0 : Nat)
    let scopeRank := fun (c : Scope) => (match c with | .left => 0 | .right => 1 | .device => 2 : Nat)
    let flagRank := fun (c : FlagClass) => (match c with | .plain => 0 | .held => 1 | .restored => 2 : Nat)
    (∀ u : Transition, u ∈ ts ↔ ∃ d ∈ formRecords ts,
      d.direction = u.direction ∧ d.scope = u.scope ∧ d.flag = u.flag ∧ u.kind ∈ d.kinds) ∧
    (∀ d ∈ formRecords ts, 1 ≤ d.kinds.length ∧ d.kinds.length ≤ 4 ∧
      d.kinds.Pairwise (fun j k => kindNumber j < kindNumber k) ∧
      (∀ j ∈ d.kinds, ∀ k ∈ d.kinds, part d.direction d.scope j = part d.direction d.scope k) ∧
      (d.more = true → ∃ e ∈ formRecords ts, e.direction = d.direction ∧ e.scope = d.scope ∧ e.flag = d.flag ∧
        ∀ j ∈ d.kinds, ∀ k ∈ e.kinds, kindNumber j < kindNumber k ∧
          part d.direction d.scope j = part e.direction e.scope k)) ∧
    (formRecords ts).Pairwise fun d e => ∀ j ∈ d.kinds, ∀ k ∈ e.kinds,
      let p := part d.direction d.scope j
      let q := part e.direction e.scope k
      p < q ∨ (p = q ∧ (scopeRank d.scope < scopeRank e.scope ∨ (d.scope = e.scope ∧
        (flagRank d.flag < flagRank e.flag ∨ (d.flag = e.flag ∧
          d.more = true ∧ d.kinds.length = 4 ∧ kindNumber j < kindNumber k)))))) ∧
  ∀ (time : PartTime) (viewLeft viewRight : ViewState) (q : Reports) (d : Draft),
    (q.records.length < 32 → storeRecord time viewLeft viewRight q d =
      ⟨q.records ++ [⟨q.next, time, d.scope, d.direction, d.kinds, d.flag, d.more, viewLeft, viewRight, q.missed⟩],
        q.next + 1, 0⟩) ∧
    (32 ≤ q.records.length → q.missed ≤ 7 → storeRecord time viewLeft viewRight q d =
      ⟨q.records, q.next, min 7 (q.missed + 1)⟩)

/-- A reverse value above 1 with its flag set is refused with BAD_VALUE and nothing else changes. Otherwise each
signal whose flag is set takes its clamped value, is FRESH and arrived with its timer armed for 300,000 µs later;
on each side that is not OFF an arrived reverse adds or removes MANEUVER, an arrived angle adds TURN_FOLLOW at 8.0
degrees toward the side, removes it below 5.0 and otherwise recomputes its pan, and the windows in force are
resolved; VEHICLE_SIGNAL_STALE is told gone if a signal arrived and no arrived one is STALE. The reply is CLAMPED
if a carried value was clamped. [R98, R99, R101, R102, R105, R106, R107] -/
def Obligations.VehicleStateArrivesAtSignalsAndOverrides : Prop :=
  ∀ (tag : Byte) (p : List Byte) (s : State), Answerable .vehicleState p s → FaultLaw s → ViewLaw s → WindowLaw s →
    let flag := fun i => (p.getD 0 0).getLsbD i
    let speed := uField p 1 2
    let angle := sField p 4
    (flag 1 = true → 1 < uField p 3 1 →
      exec (.vehicleState tag p) s = .next (answered .vehicleState tag p.length .badValue [] s)) ∧
    (flag 1 = false ∨ uField p 3 1 ≤ 1 →
      ∃ t, exec (.vehicleState tag p) s = .next t ∧ Reported s t ∧ HandedOn .plain [] s t ∧
        t = { s with
          left := t.left, right := t.right, signals := t.signals, reports := t.reports,
          link := placedLink (countedLink s.link) (replyFrame (kindCode .vehicleState) tag
            (if (flag 0 && decide (2550 < speed)) || (flag 2 && decide (angle < -900 ∨ 900 < angle)) then .clamped
             else .ok) []),
          out := [requestOutput p.length s], handed := t.handed } ∧
        t.signals =
          { speed := if flag 0 then min 2550 speed else s.signals.speed,
            reverse := if flag 1 then uField p 3 1 == 1 else s.signals.reverse,
            angle := if flag 2 then max (-900) (min 900 angle) else s.signals.angle,
            speedStatus := if flag 0 then ⟨true, true, some (after s.now 300000)⟩ else s.signals.speedStatus,
            reverseStatus := if flag 1 then ⟨true, true, some (after s.now 300000)⟩ else s.signals.reverseStatus,
            angleStatus := if flag 2 then ⟨true, true, some (after s.now 300000)⟩ else s.signals.angleStatus } ∧
        ∀ x, ViewFollows x s t ∧ MapFollows x s t ∧
          t.faults x =
            (if (flag 0 || flag 1 || flag 2) && !anySignalStale t.signals then goneIn (s.faults x) .vehicleSignalStale
             else s.faults x) ∧
          (let g := (s.side x).geometry
           let pan := min 480 (t.signals.angle.natAbs * g.panGain / 10)
           let toward : Int := match x with | .left => -t.signals.angle | .right => t.signals.angle
           let o : Overrides :=
             { inspect := g.overrides.inspect,
               maneuver := if flag 1 then uField p 3 1 == 1 else g.overrides.maneuver,
               turnFollow :=
                 if flag 2 then
                   (if g.overrides.turnFollow = none then (if 80 ≤ toward then some pan else none)
                    else if toward < 50 then none else some pan)
                 else g.overrides.turnFollow }
           t.side x = { s.side x with
             geometry := if (s.side x).sup.view = .off then g else resolve x { g with overrides := o },
             sup := { (s.side x).sup with view := (t.side x).sup.view, faults := t.faults x },
             gain := (t.side x).gain }))

/-- With power and the timer of a signal that has arrived due: the signal is STALE with its value and arrived flag
kept and its timer disarmed, MANEUVER (for reverse) or TURN_FOLLOW (for the angle) leaves each side that is not
OFF with the windows in force resolved, and VEHICLE_SIGNAL_STALE is raised in both sets. Nothing else changes but
the view and map that the sets call for. [R98, R100, R101, R105, R106] -/
def Obligations.FreshnessTimerMakesASignalStale : Prop :=
  ∀ (sig : Signal) (s : State), s.powered = true → FaultLaw s → ViewLaw s → WindowLaw s →
    due (freshnessTimer s.signals sig) s.now = true →
    (match sig with
      | .speed => s.signals.speedStatus.arrived
      | .reverse => s.signals.reverseStatus.arrived
      | .angle => s.signals.angleStatus.arrived) = true →
    ∃ t, exec (.freshnessTimerExpiry sig) s = .next t ∧ Reported s t ∧ HandedOn .plain [] s t ∧
      t = { s with
        left := t.left, right := t.right, reports := t.reports, out := [], handed := t.handed,
        signals :=
          match sig with
          | .speed => { s.signals with speedStatus := ⟨false, s.signals.speedStatus.arrived, none⟩ }
          | .reverse => { s.signals with reverseStatus := ⟨false, s.signals.reverseStatus.arrived, none⟩ }
          | .angle => { s.signals with angleStatus := ⟨false, s.signals.angleStatus.arrived, none⟩ } } ∧
      ∀ x, ViewFollows x s t ∧ MapFollows x s t ∧ t.faults x = raisedIn (s.faults x) .vehicleSignalStale ∧
        (let g := (s.side x).geometry
         let o : Overrides :=
           match sig with
           | .speed => g.overrides
           | .reverse => { g.overrides with maneuver := false }
           | .angle => { g.overrides with turnFollow := none }
         t.side x = { s.side x with
           geometry := if (s.side x).sup.view = .off then g else resolve x { g with overrides := o },
           sup := { (s.side x).sup with view := (t.side x).sup.view, faults := t.faults x },
           gain := (t.side x).gain })

/-- With power, when the next sample is due, SAMPLE keeps the readings and extremes, and the next one is due 1,000 µs
later; a supply level is entered below its threshold and left at 50 mV above it, a temperature level entered above
its threshold and left at 5 degrees below it; a level entered sets its sticky indicator and raises its kind in
both sets, a level left has its kind told gone, and every other kind stands as before. Nothing else changes but
the views and maps that the sets call for. A SAMPLE that is not due changes nothing, and a sample that is due is
among the part's own due events, its readings in the ranges of R163. (The model's choices: readings outside those
ranges are taken as they are, log 18; a sample command that comes early has no effect and the readings of the
part's own sample are free, log 22.) [R135, R163, R164] -/
def Obligations.SampleMovesLevelsExtremesAndKinds : Prop :=
  (∀ (supply : Nat) (temperature : Int) (s : State), s.powered = true → due (some s.health.nextSample) s.now = true →
    FaultLaw s → ViewLaw s →
    ∃ t, exec (.sample supply temperature) s = .next t ∧ Reported s t ∧ HandedOn .plain [] s t ∧
      t = { s with
        left := t.left, right := t.right, health := t.health, reports := t.reports, out := [], handed := t.handed,
        freeCount := s.freeCount + 1 } ∧
      (let h := s.health
       let level := fun (old enter leave : Bool) => if old then !leave else enter
       let low := level h.entered.supplyLow (decide (supply < h.thresholds.supplyLow))
         (decide (h.thresholds.supplyLow + 50 ≤ supply))
       let crit := level h.entered.supplyCrit (decide (supply < h.thresholds.supplyCrit))
         (decide (h.thresholds.supplyCrit + 50 ≤ supply))
       let high := level h.entered.tempHigh (decide (h.thresholds.tempHigh < temperature))
         (decide (temperature ≤ h.thresholds.tempHigh - 5))
       let hot := level h.entered.tempCrit (decide (h.thresholds.tempCrit < temperature))
         (decide (temperature ≤ h.thresholds.tempCrit - 5))
       t.health =
         { nextSample := after h.nextSample 1000,
           supply := some supply, temperature := some temperature, thresholds := h.thresholds,
           minSupply := some ((h.minSupply.map fun m => min m supply).getD supply),
           maxTemperature := some ((h.maxTemperature.map fun m => max m temperature).getD temperature),
           entered := ⟨low, crit, high, hot⟩,
           sticky := ⟨h.sticky.supplyLow || (low && !h.entered.supplyLow),
             h.sticky.supplyCrit || (crit && !h.entered.supplyCrit),
             h.sticky.tempHigh || (high && !h.entered.tempHigh),
             h.sticky.tempCrit || (hot && !h.entered.tempCrit)⟩ } ∧
       ∀ x, ViewFollows x s t ∧ MapFollows x s t ∧
         t.side x = { s.side x with
           sup := { (s.side x).sup with view := (t.side x).sup.view, faults := t.faults x },
           gain := (t.side x).gain } ∧
         (let stands := fun (k : FaultKind) (old new : Bool) =>
            (t.faults x).get k = if new && !old then .active
              else if old && !new then (goneIn (s.faults x) k).get k else (s.faults x).get k
          stands .supplyLow h.entered.supplyLow low ∧ stands .supplyCritical h.entered.supplyCrit crit ∧
          stands .tempHigh h.entered.tempHigh high ∧ stands .tempCritical h.entered.tempCrit hot) ∧
         ∀ k, k ∉ [FaultKind.supplyLow, .supplyCritical, .tempHigh, .tempCritical] →
           (t.faults x).get k = (s.faults x).get k)) ∧
  ∀ s : State, s.powered = true →
    (due (some s.health.nextSample) s.now = false →
      ∀ supply temperature, exec (.sample supply temperature) s = .next { s with out := [], handed := [] }) ∧
    (due (some s.health.nextSample) s.now = true → ∃ (supply : Nat) (temperature : Int),
      .sample supply temperature ∈ dueEvents s ∧ supply ≤ 5000 ∧ -50 ≤ temperature ∧ temperature ≤ 200)

/-- A code outside the ranges is refused with BAD_VALUE. ADJUST_VIEW moves the named base window by the two signed
offsets, clamps it into the bounds, resolves the windows in force and returns it, CLAMPED if clamping acted.
INSPECT on an OFF side is REFUSED_STATE; otherwise the preset becomes the INSPECT entry and its timer runs 1 to 60
s (CLAMPED outside). END_INSPECT removes the entry of the sides named and disarms its timer, and so does the
timer's expiry. Nothing else but the link changes. [R97, R103, R104, R108] -/
def Obligations.ViewRequestsMoveWindowsAndInspect : Prop :=
  ∀ (tag : Byte) (p : List Byte) (s : State), WindowLaw s →
    (Answerable .adjustView p s →
      (1 < uField p 0 1 ∨ 1 < uField p 1 1 →
        exec (.adjustView tag p) s = .next (answered .adjustView tag p.length .badValue [] s)) ∧
      ∀ (x : Side) (wide : Bool), uField p 0 1 = sideCode x → uField p 1 1 = (if wide then 1 else 0) →
        let g := (s.side x).geometry
        let w := if wide then g.baseWide else g.baseMain
        let v := clampAt g.bounds (w.x + sField p 2) (w.y + sField p 4) w.w w.h
        let moved := ((v.x : Int), (v.y : Int), v.w, v.h) = (w.x + sField p 2, w.y + sField p 4, w.w, w.h)
        exec (.adjustView tag p) s = .next
          ((answered .adjustView tag p.length (if moved then .ok else .clamped)
            (le 2 v.x ++ le 2 v.y ++ le 2 v.w ++ le 2 v.h) s).setSide x { s.side x with
              geometry := resolve x (if wide then { g with baseWide := v } else { g with baseMain := v }) })) ∧
    (Answerable .inspect p s →
      (1 < uField p 0 1 ∨ 1 < uField p 1 1 →
        exec (.inspect tag p) s = .next (answered .inspect tag p.length .badValue [] s)) ∧
      ∀ (x : Side) (preset : Preset), uField p 0 1 = sideCode x →
        uField p 1 1 = (match preset with | .curb => 0 | .axle => 1) →
        ((s.side x).sup.view = .off →
          exec (.inspect tag p) s = .next (answered .inspect tag p.length .refusedState [] s)) ∧
        ((s.side x).sup.view ≠ .off →
          let g := (s.side x).geometry
          let seconds := max 1 (min 60 (uField p 2 1))
          exec (.inspect tag p) s = .next
            ((answered .inspect tag p.length (if seconds = uField p 2 1 then .ok else .clamped) [] s).setSide x
              { s.side x with geometry := { resolve x { g with overrides := { g.overrides with inspect := some preset } }
                with inspectTimer := some (after s.now (seconds * 1000000)) } }))) ∧
    (let ended := fun x => if (s.side x).geometry.overrides.inspect.isSome then
        { s.side x with geometry := { resolve x { (s.side x).geometry with
            overrides := { (s.side x).geometry.overrides with inspect := none } } with inspectTimer := none } }
        else s.side x
     (Answerable .endInspect p s →
       (2 < uField p 0 1 → exec (.endInspect tag p) s = .next (answered .endInspect tag p.length .badValue [] s)) ∧
       (uField p 0 1 ≤ 2 → exec (.endInspect tag p) s = .next { answered .endInspect tag p.length .ok [] s with
         left := if names (uField p 0 1) .left then ended .left else s.left,
         right := if names (uField p 0 1) .right then ended .right else s.right })) ∧
     (s.powered = true → ∀ x, due (s.side x).geometry.inspectTimer s.now = true →
       (s.side x).geometry.overrides.inspect.isSome = true →
       exec (.inspectDurationExpiry x) s = .next { s.setSide x (ended x) with out := [], handed := [] }))

/-- An invalid side or mode code is refused with BAD_VALUE, and SET_TIMING with a side not OFF with REFUSED_STATE;
nothing else changes then. Otherwise the settings carried, each clamped into its range and (tone entries against
those before, Emin against Emax, E_off against E_on) corrected, are in force on the sides named and returned,
CLAMPED if any was changed and OK otherwise. Nothing else but the link changes. [R8, R47, R53, R73, R91, R176] -/
def Obligations.SettingRequestsClampAndTakeEffect : Prop :=
  ∀ (tag : Byte) (p : List Byte) (s : State),
    (Answerable .setTiming p s →
      (1 < uField p 4 1 ∨ 1 < uField p 5 1 →
        exec (.setTiming tag p) s = .next (answered .setTiming tag p.length .badValue [] s)) ∧
      (uField p 4 1 ≤ 1 → uField p 5 1 ≤ 1 →
        (s.left.sup.view ≠ .off ∨ s.right.sup.view ≠ .off →
          exec (.setTiming tag p) s = .next (answered .setTiming tag p.length .refusedState [] s)) ∧
        (s.left.sup.view = .off → s.right.sup.view = .off →
          let period := max 16000 (min 40000 (uField p 0 2))
          let lead := max 2000 (min 60000 (uField p 2 2))
          let tolerance := max 20 (min 2000 (uField p 6 2))
          let mode := fun n => if n = 1 then SyncMode.follow else .triggered
          exec (.setTiming tag p) s = .next { answered .setTiming tag p.length
            (if (period, lead, tolerance) = (uField p 0 2, uField p 2 2, uField p 6 2) then .ok else .clamped)
            (le 2 period ++ le 2 lead ++ le 1 (uField p 4 1) ++ le 1 (uField p 5 1) ++ le 2 tolerance) s with
            timing := ⟨period, lead, mode (uField p 4 1), mode (uField p 5 1), tolerance⟩ }))) ∧
    (Answerable .setGlare p s →
      (2 < uField p 0 1 → exec (.setGlare tag p) s = .next (answered .setGlare tag p.length .badValue [] s)) ∧
      (uField p 0 1 ≤ 2 →
        let g : GlareSettings :=
          ⟨max 10000 (min 598528 (uField p 1 4)), max 1 (min 2700 (uField p 5 2)), min 50 (uField p 7 1),
            max 1000 (min 598528 (uField p 8 4)), max 512 (min 4096 (uField p 12 2)),
            max 1 (min 4096 (uField p 14 2)), max 1 (min 4096 (uField p 16 2))⟩
        let put := fun x => if names (uField p 0 1) x then
          { s.side x with glare := { (s.side x).glare with settings := g } } else s.side x
        exec (.setGlare tag p) s = .next { answered .setGlare tag p.length
          (if g = ⟨uField p 1 4, uField p 5 2, uField p 7 1, uField p 8 4, uField p 12 2, uField p 14 2, uField p 16 2⟩
            then .ok else .clamped)
          (le 4 g.level ++ le 2 g.minHot ++ le 1 g.cap ++ le 4 g.ceiling ++ le 2 g.floor ++ le 2 g.rampDown ++
            le 2 g.rampUp) s with left := put .left, right := put .right })) ∧
    (Answerable .setTone p s →
      (2 < uField p 0 1 → exec (.setTone tag p) s = .next (answered .setTone tag p.length .badValue [] s)) ∧
      (uField p 0 1 ≤ 2 →
        let raw := fun i => uField p (3 + 2 * i) 2
        let key := max 64 (min 1024 (uField p 1 2))
        let table := (List.range 65).map fun i => ((List.range (i + 1)).map fun j => min 1023 (raw j)).foldl max 0
        let put := fun x => if names (uField p 0 1) x then
          { s.side x with tone := { (s.side x).tone with key := key, table := table } } else s.side x
        exec (.setTone tag p) s = .next { answered .setTone tag p.length
          (if key = uField p 1 2 ∧ table = (List.range 65).map raw then .ok else .clamped)
          (le 2 key ++ table.flatMap (le 2)) s with left := put .left, right := put .right })) ∧
    (Answerable .setExposureLimits p s →
      (2 < uField p 0 1 →
        exec (.setExposureLimits tag p) s = .next (answered .setExposureLimits tag p.length .badValue [] s)) ∧
      (uField p 0 1 ≤ 2 →
        let bounded := fun v => max 1 (min 4096 v)
        let emax := bounded (uField p 3 2)
        let emin := min (bounded (uField p 1 2)) emax
        let target := max 1000 (min 400000 (uField p 5 4))
        let eOn := if bounded (uField p 9 2) = 1 then 2 else bounded (uField p 9 2)
        let eOff := min (bounded (uField p 11 2)) (eOn - 1)
        let put := fun x => if names (uField p 0 1) x then
          { s.side x with exposure := { (s.side x).exposure with limits := ⟨emin, emax, target, eOn, eOff⟩ } }
          else s.side x
        exec (.setExposureLimits tag p) s = .next { answered .setExposureLimits tag p.length
          (if (emin, emax, target, eOn, eOff) =
              (uField p 1 2, uField p 3 2, uField p 5 4, uField p 9 2, uField p 11 2) then .ok else .clamped)
          (le 2 emin ++ le 2 emax ++ le 4 target ++ le 2 eOn ++ le 2 eOff) s with
          left := put .left, right := put .right }))

/-- A value out of range is refused with BAD_VALUE and leaves the latch. Otherwise the first check that fails refuses:
an operation in flight STORE_BUSY; no latch NOT_UNLOCKED; then, the latch cleared, a protected block concerned
PROTECTED, a speed signal that is STALE or above 0 VEHICLE_MOVING, SUPPLY_CRITICAL, TEMP_CRITICAL or SUPPLY_LOW in
a set REFUSED_STATE. With none failing the operation is in flight, its timer armed for 3,000 µs (write, lock) or
20,000 µs (erase, first phase of a save), and the reply is STARTED. No cell changes, and nothing else but the
link. [R167, R187, R188, R190, R191, R193, R196] -/
def Obligations.ModifyingStoreRequestsStartOrAreRefusedInOrder : Prop :=
  ∀ (tag : Byte) (p : List Byte) (s : State),
    (∀ (k : RequestKind) (w : StoreWork) (shut : Bool), Answerable k p s →
      (k = .storeWrite ∧ uField p 0 1 ≤ 63 ∧ uField p 1 1 ≤ 127 ∧ 1 ≤ uField p 2 1 ∧ uField p 2 1 ≤ 128 ∧
          w = .write (uField p 0 1) (uField p 1 1) (p.drop 3) ∧ shut = blockProtected s.store (uField p 0 1)) ∨
        (k = .storeErase ∧ uField p 0 1 ≤ 63 ∧ w = .erase (uField p 0 1) ∧
          shut = blockProtected s.store (uField p 0 1)) ∨
        (k = .storeLockFactory ∧ w = .lock ∧ shut = s.store.factoryLock) ∨
        (k = .saveProfile ∧ uField p 0 1 ≤ 3 ∧ w = .save (uField p 0 1) (profileBytes (uField p 0 1) s) 1 ∧
          shut = (blockProtected s.store (8 + 2 * uField p 0 1) || blockProtected s.store (9 + 2 * uField p 0 1))) →
      let unlatched := { s.store with latch := false }
      let moving := !s.signals.speedStatus.fresh || decide (0 < s.signals.speed)
      let weak := [FaultKind.supplyLow, .supplyCritical, .tempCritical].any fun k =>
        (s.faults .left).get k != .absent || (s.faults .right).get k != .absent
      let time := match w with | .write _ _ _ => 3000 | .erase _ => 20000 | .lock => 3000 | .save _ _ _ => 20000
      exec (request k tag p) s = .next
        (if s.store.operation.isSome then answered k tag p.length .storeBusy [] s
         else if s.store.latch = false then answered k tag p.length .notUnlocked [] s
         else if shut then { answered k tag p.length .isProtected [] s with store := unlatched }
         else if moving then { answered k tag p.length .vehicleMoving [] s with store := unlatched }
         else if weak then { answered k tag p.length .refusedState [] s with store := unlatched }
         else { answered k tag p.length .started [] s with
           store := { unlatched with operation := some ⟨w, after s.now time⟩ } })) ∧
    (∀ k : RequestKind, Answerable k p s →
      (k = .storeWrite ∧ (63 < uField p 0 1 ∨ 127 < uField p 1 1 ∨ uField p 2 1 = 0 ∨ 128 < uField p 2 1)) ∨
        (k = .storeErase ∧ 63 < uField p 0 1) ∨ (k = .saveProfile ∧ 3 < uField p 0 1) →
      exec (request k tag p) s = .next (answered k tag p.length .badValue [] s))

/-- With an operation in flight each is refused with STORE_BUSY (STORE_READ after its values were checked, the model's
order: log 34). Otherwise STORE_UNLOCK sets the write latch; STORE_READ returns min(length, 128) bytes from the
offset on into the blocks that follow, fewer where block 63 ends, CLAMPED for a length above 128 and BAD_VALUE for
a block above 63 or an offset above 127; STORE_PROTECT sets and returns the boundary, clamped to 64 and, with the
factory lock set, raised to 8, CLAMPED if that changed it. Nothing else but the link changes. [R185, R187, R189,
R192] -/
def Obligations.UnlockReadAndProtectActAsStated : Prop :=
  ∀ (tag : Byte) (p : List Byte) (s : State),
    (Answerable .storeUnlock p s →
      exec (.storeUnlock tag p) s = .next
        (if s.store.operation.isSome then answered .storeUnlock tag p.length .storeBusy [] s
         else { answered .storeUnlock tag p.length .ok [] s with store := { s.store with latch := true } })) ∧
    (Answerable .storeRead p s →
      let start := 128 * uField p 0 1 + uField p 1 1
      let n := min (min 128 (uField p 2 1)) (8192 - start)
      exec (.storeRead tag p) s = .next
        (if 63 < uField p 0 1 ∨ 127 < uField p 1 1 then answered .storeRead tag p.length .badValue [] s
         else if s.store.operation.isSome then answered .storeRead tag p.length .storeBusy [] s
         else answered .storeRead tag p.length (if 128 < uField p 2 1 then .clamped else .ok)
           (le 1 n ++ (List.range n).map fun i => readCell s.store.cells (start + i)) s)) ∧
    (Answerable .storeProtect p s →
      let v := uField p 0 1
      let b := if s.store.factoryLock then max 8 (min 64 v) else min 64 v
      exec (.storeProtect tag p) s = .next
        (if s.store.operation.isSome then answered .storeProtect tag p.length .storeBusy [] s
         else { answered .storeProtect tag p.length (if b = v then .ok else .clamped) (le 1 b) s with
           store := { s.store with boundary := b } }))

/-- With power, from a state of the store law, when the timer of the phase in flight is due: every byte becomes what
the phase makes of it (0xFF in the erased block; the AND of byte and data in the written one, the data wrapping
within the block; every other byte as before). SAVE_PROFILE_PHASE_EXPIRY before phase 4 puts the next phase in
flight, its timer armed for 20,000 µs (phase 2) or 3,000 µs; STORE_OPERATION_COMPLETION leaves no operation in
flight and the indicator COMPLETED OK, and a completed lock sets the factory lock and raises the boundary to 8. A
waiting reset is then made with its reply; otherwise QUIESCING ends if the part is at rest. Nothing else changes.
[R181, R184, R185, R190, R191, R193, R194, R196] -/
def Obligations.StorePhasesAndCompletionsWriteTheirCells : Prop :=
  ∀ (s : State) (o : StoreOperation), s.powered = true → StoreLaw s → s.store.operation = some o →
    due (some o.expiry) s.now = true →
    (∀ n bytes phase, o.work = .save n bytes phase → phase < 4 →
      ∃ t, exec .saveProfilePhaseExpiry s = .next t ∧
        t = { s with out := [], handed := [], store := { s.store with
          cells := t.store.cells,
          operation := some ⟨.save n bytes (phase + 1), after s.now (if phase = 1 then 20000 else 3000)⟩ } } ∧
        ∀ a, readCell t.store.cells a = phaseByte o.work a (readCell s.store.cells a)) ∧
    ((∀ n bytes phase, o.work = .save n bytes phase → phase = 4) →
      ∃ t, exec .storeOperationCompletion s = .next t ∧
        (∀ a, readCell t.store.cells a = phaseByte o.work a (readCell s.store.cells a)) ∧
        (let locked := s.store.factoryLock || o.work == .lock
         (s.link.resetPending = none →
           t = { s with out := [], handed := [], link := restedLink s t, store := { s.store with
             cells := t.store.cells, factoryLock := locked,
             boundary := if o.work = .lock then max 8 s.store.boundary else s.store.boundary,
             operation := none, completedOk := true } }) ∧
         (∀ tag, s.link.resetPending = some tag →
           t = { State.reset with
             store := { State.reset.store with cells := t.store.cells, factoryLock := locked },
             link := { State.reset.link with
               wakeLine := s.link.wakeLine, slot := some (replyFrame 0x1C tag .ok []),
               window := s.link.window.map fun w => { w with spannedReset := true } },
             freeCount := s.freeCount, pending := s.pending })))

/-- A profile number above 3 is refused with BAD_VALUE, an operation in flight with STORE_BUSY (BAD_VALUE first is the
model's order: log 34), a profile whose CRC, format or number is wrong with DAMAGED. Otherwise the stored
settings, brought into range and the windows into the bounds, are the settings in force on both sides and the
device, the windows in force are resolved, CLAMPED if any setting was corrected; displayed windows, overrides and
everything else but the link are as before. Corrected settings are in range, and settings in range with base
windows inside the bounds are kept. [R95, R96, R108, R197] -/
def Obligations.LoadProfileCorrectsAndAppliesTheStoredSettings : Prop :=
  (∀ (tag : Byte) (p : List Byte) (s : State), Answerable .loadProfile p s →
      let n := uField p 0 1
      let bytes := readCells s.store.cells (128 * (8 + 2 * n)) 256
      let stored := readProfile bytes
      let wanted := fun x => match x with | Side.left => stored.left | .right => stored.right
      let c := fun x => correctSide (s.side x).geometry.bounds (wanted x)
      let put := fun x =>
        let d := s.side x
        { d with
          geometry := resolve x { d.geometry with
            baseMain := (c x).main, baseWide := (c x).wide, curb := (c x).curb, axle := (c x).axle,
            maneuver := (c x).maneuver, panGain := (c x).panGain },
          tone := { d.tone with key := (c x).key, table := (c x).table },
          glare := { d.glare with settings := (c x).glare },
          exposure := { d.exposure with limits := (c x).limits },
          display := { d.display with repeatLimit := (c x).repeatLimit, latencyBudget := 1000 * (c x).budget },
          sup := { d.sup with startTimeout := 100 * (c x).timeout } }
      exec (.loadProfile tag p) s = .next
        (if 3 < n then answered .loadProfile tag p.length .badValue [] s
         else if s.store.operation.isSome then answered .loadProfile tag p.length .storeBusy [] s
         else if profileDamaged n bytes then answered .loadProfile tag p.length .damaged [] s
         else { answered .loadProfile tag p.length
             (if c .left = stored.left ∧ c .right = stored.right ∧
                correctThresholds stored.thresholds = stored.thresholds then .ok else .clamped) [] s with
           left := put .left, right := put .right,
           health := { s.health with thresholds := correctThresholds stored.thresholds } })) ∧
    (∀ (b : Window) (q : SideProfile), validWindow b = true → q.table.length = 65 →
      sideInRange (correctSide b q) ∧
      inside b (correctSide b q).main = true ∧ inside b (correctSide b q).wide = true ∧
      (sideInRange q → inside b q.main = true → inside b q.wide = true → correctSide b q = q)) ∧
    (∀ t : Thresholds, thresholdsInRange (correctThresholds t) ∧ (thresholdsInRange t → correctThresholds t = t))

/-- A side code above 2 is refused with BAD_VALUE, and START_VIEW with a named side not OFF with REFUSED_STATE;
nothing else changes then. START_VIEW otherwise arms both triggers and the timers of each named side, puts its
blocks at their start state with the view BLANKED if its set holds a BLANK kind and STARTING if not, and admits
STREAM_ON. STOP_VIEW stops each named side that is not OFF as R149 states, removing its AUTO kinds of scope side,
and admits STREAM_OFF; a named side that is OFF is left as it was. Each replies OK with both view states. Sides
not named, and everything else, are as before. [R3, R29, R112, R143, R144, R148, R149] -/
def Obligations.StartAndStopViewActOnTheSidesNamed : Prop :=
  ∀ (tag : Byte) (p : List Byte) (s : State),
    (Answerable .startView p s →
      (2 < uField p 0 1 → exec (.startView tag p) s = .next (answered .startView tag p.length .badValue [] s)) ∧
      (uField p 0 1 ≤ 2 →
        ((∃ x, names (uField p 0 1) x = true ∧ (s.side x).sup.view ≠ .off) →
          exec (.startView tag p) s = .next (answered .startView tag p.length .refusedState [] s)) ∧
        ((∀ x, names (uField p 0 1) x = true → (s.side x).sup.view = .off) →
          ∃ t, exec (.startView tag p) s = .next t ∧
            t = { answered .startView tag p.length .ok
                (le 1 (viewCode t.left.sup.view) ++ le 1 (viewCode t.right.sup.view)) s with
              left := t.left, right := t.right, out := t.out } ∧
            ∀ x, t.side x = if names (uField p 0 1) x then
                startedSide x s (((submit x (.streamOn (s.syncMode x) s.timing.framePeriod) s).side x).channel)
              else s.side x))) ∧
    (Answerable .stopView p s →
      (2 < uField p 0 1 → exec (.stopView tag p) s = .next (answered .stopView tag p.length .badValue [] s)) ∧
      (uField p 0 1 ≤ 2 →
        ∃ t, exec (.stopView tag p) s = .next t ∧ Reported s t ∧ HandedOn .plain [] s t ∧
          t = { answered .stopView tag p.length .ok
              (le 1 (viewCode t.left.sup.view) ++ le 1 (viewCode t.right.sup.view)) s with
            left := t.left, right := t.right, reports := t.reports, out := t.out, handed := t.handed } ∧
          ∀ x, (names (uField p 0 1) x = false ∨ (s.side x).sup.view = .off → t.side x = s.side x) ∧
            (names (uField p 0 1) x = true → (s.side x).sup.view ≠ .off →
              t.side x = stoppedSide x s (t.faults x) (((submit x .streamOff s).side x).channel) ∧
              ∀ k, (t.faults x).get k =
                if kindScope k = .side ∧ latched k = false then .absent else (s.faults x).get k)))

/-- A side code above 2 or a selector above 18 is refused with BAD_VALUE. Otherwise, on each side named, every HELD
kind that the selector names (0 names all) leaves the set. Where the selector names CALIBRATION_DAMAGED, it stands
in a named side's set and no store operation is in flight, the factory calibration is read again: if its CRC
checks, the kind leaves both sets and both sides take its bounds and marker rows, with base and displayed windows
clamped inside and the windows in force resolved. Every other kind stands as before, the views follow the sets,
and the reply returns for each named side its view and the kinds that remain (their order: log 11). (A re-read
that fails leaves full-area bounds and part code 0: log 30.) [R142, R152, R155, R203] -/
def Obligations.RestoreViewRemovesHeldKindsAndRereads : Prop :=
  ∀ (tag : Byte) (p : List Byte) (s : State), Answerable .restoreView p s → FaultLaw s → ViewLaw s → WindowLaw s →
    (2 < uField p 0 1 ∨ 18 < uField p 1 1 →
      exec (.restoreView tag p) s = .next (answered .restoreView tag p.length .badValue [] s)) ∧
    (uField p 0 1 ≤ 2 → uField p 1 1 ≤ 18 →
      ∃ t, exec (.restoreView tag p) s = .next t ∧ Reported s t ∧ HandedOn .restored [] s t ∧ WindowLaw t ∧
        (let code := uField p 0 1
         let selected := fun k => decide (uField p 1 1 = 0 ∨ uField p 1 1 = kindNumber k)
         let b := readCells s.store.cells 0 1024
         let rereads := selected .calibrationDamaged && s.store.operation.isNone &&
           [Side.left, .right].any fun x => names code x && (s.faults x).stands .calibrationDamaged
         let mended := rereads && calibrationGood b
         t = { s with
           left := t.left, right := t.right, reports := t.reports,
           link := { placedLink (countedLink s.link) (replyFrame (kindCode .restoreView) tag .ok
               ((if names code .left then restoreBytes t .left else []) ++
                 (if names code .right then restoreBytes t .right else []))) with
             partCode := if mended then BitVec.ofNat 16 (uField b 0 2) else if rereads then 0 else s.link.partCode },
           out := [requestOutput p.length s], handed := t.handed } ∧
         ∀ x, ViewFollows x s t ∧ MapFollows x s t ∧
           t.side x = { s.side x with
             geometry := (t.side x).geometry,
             sup := { (s.side x).sup with view := (t.side x).sup.view, faults := t.faults x },
             gain := (t.side x).gain } ∧
           (∀ k, (t.faults x).get k =
             if k = .calibrationDamaged ∧ mended then .absent
             else if names code x ∧ selected k ∧ (s.faults x).get k = .held then .absent
             else (s.faults x).get k) ∧
           (rereads = false → (t.side x).geometry = (s.side x).geometry) ∧
           (mended → (t.side x).geometry =
             boundedGeometry x (calibratedBounds x b) (calibratedMarkers x b) (s.side x).geometry) ∧
           (rereads → mended = false → (t.side x).geometry =
             boundedGeometry x ⟨0, 0, 1920, 1080⟩ [none, none, none] (s.side x).geometry)))

/-- For every profile number 0 to 3 and every state whose settings are in their ranges and whose tone tables rise by
at most 255 from entry to entry (R195), the 256 profile bytes pass the check of R197 for that number and give back
every setting of both sides and the device. [R195, R196, R200, R201, R207] -/
def Obligations.ProfileBytesReadBack : Prop :=
  ∀ (n : Nat) (s : State), n ≤ 3 → SettingsLaw s →
    (∀ x i a b, (s.side x).tone.table[i]? = some a → (s.side x).tone.table[i + 1]? = some b → b ≤ a + 255) →
    (profileBytes n s).length = 256 ∧ profileDamaged n (profileBytes n s) = false ∧
      readProfile (profileBytes n s) = settings s

/-- For valid bounds and any window (of an origin that may be negative): the size is limited to the bounds and to at
least 2, the origin takes the least move that brings it inside, and all four values are rounded down to even; the
result is valid and inside the bounds, differs from the given window exactly if one of the steps changed a value,
and is the given window where that is even and inside. [R95] -/
def Obligations.ClampedWindowsAreValidInsideAndNearest : Prop :=
  ∀ (b : Window) (x y : Int) (w h : Nat), validWindow b = true →
    let w1 := max 2 (min w b.w)
    let h1 := max 2 (min h b.h)
    let x1 := if x < b.x then (b.x : Int) else if x + w1 > b.x + b.w then b.x + b.w - w1 else x
    let y1 := if y < b.y then (b.y : Int) else if y + h1 > b.y + b.h then b.y + b.h - h1 else y
    let v := clampAt b x y w h
    ((b.x : Int) ≤ x1 ∧ x1 + w1 ≤ b.x + b.w ∧ (b.y : Int) ≤ y1 ∧ y1 + h1 ≤ b.y + b.h) ∧
    (∀ x2 : Int, b.x ≤ x2 → x2 + w1 ≤ b.x + b.w → (x1 - x).natAbs ≤ (x2 - x).natAbs) ∧
    (∀ y2 : Int, b.y ≤ y2 → y2 + h1 ≤ b.y + b.h → (y1 - y).natAbs ≤ (y2 - y).natAbs) ∧
    ((v.x : Int) = x1 - x1 % 2 ∧ (v.y : Int) = y1 - y1 % 2 ∧ v.w = w1 - w1 % 2 ∧ v.h = h1 - h1 % 2) ∧
    validWindow v = true ∧ inside b v = true ∧
    ((w1 ≠ w ∨ h1 ≠ h ∨ x1 ≠ x ∨ y1 ≠ y ∨ x1 % 2 ≠ 0 ∨ y1 % 2 ≠ 0 ∨ w1 % 2 ≠ 0 ∨ h1 % 2 ≠ 0) ↔
      ((v.x : Int) ≠ x ∨ (v.y : Int) ≠ y ∨ v.w ≠ w ∨ v.h ≠ h)) ∧
    (∀ u : Window, validWindow u = true → inside b u = true → clampWindow b u = u)

/-- The scene value of a code is that of its segment, rises strictly with the code, ends at 598,528, and leaves 9,209
to 9,215 and 74,689 to 74,751 out (R18). The columns, rows and weights of a pixel are those of the two tables of
R84. Its gain is the weighted sum of the four tile gains divided by 10,800, rounded half up; it lies between the
least and the greatest of them, is a tile's own gain at its centre, and the common gain where the four are equal
(R85). The display code of a keyed luminance up to 524,287 interpolates the table in the interval that holds it;
it lies between the interval's entries and between the first and the last, and does not decrease (R87). Besides,
as R86 and R88 state, quad q of a quad row is developed into four codes at columns 2q and 2q + 1 of its two rows,
each sample times the display code of its keyed luminance, divided by the quad's luminance, limited to 1,023; and,
as R123 to R125 state, a visible pixel of a pattern has its fixed codes, and one of an image is that of the
markers or the colour of the quad that holds the sensor pixel, which lies inside its window. [R18, R84, R85, R87] -/
def Obligations.PixelValuesDecompandDimAndDisplayAsStated : Prop :=
  ((∀ c, (c ≤ 1023 → decompand c = c) ∧ (1024 ≤ c → c ≤ 2047 → decompand c = 1024 + (c - 1024) * 8) ∧
        (2048 ≤ c → c ≤ 3071 → decompand c = 9216 + (c - 2048) * 64) ∧
        (3072 ≤ c → c ≤ 4095 → decompand c = 74752 + (c - 3072) * 512) ∧
        (c ≤ 4095 → decompand c ≤ 598528 ∧
          ¬(9209 ≤ decompand c ∧ decompand c ≤ 9215) ∧ ¬(74689 ≤ decompand c ∧ decompand c ≤ 74751)) ∧
        ∀ d, c < d → d ≤ 4095 → decompand c < decompand d) ∧
    decompand 4095 = 598528 ∧
    (∀ x, (x ≤ 59 → gainColumns x = (0, 0, 0)) ∧
      (60 ≤ x → x ≤ 1859 → gainColumns x =
        ((x - 60) / 120, (x - 60) / 120 + 1, x - (60 + 120 * ((x - 60) / 120))) ∧
        x - (60 + 120 * ((x - 60) / 120)) ≤ 119) ∧
      (1860 ≤ x → x ≤ 1919 → gainColumns x = (15, 15, 0))) ∧
    (∀ y, (y ≤ 44 → gainRows y = (0, 0, 0)) ∧
      (45 ≤ y → y ≤ 1034 → gainRows y = ((y - 45) / 90, (y - 45) / 90 + 1, y - (45 + 90 * ((y - 45) / 90))) ∧
        y - (45 + 90 * ((y - 45) / 90)) ≤ 89) ∧
      (1035 ≤ y → y ≤ 1079 → gainRows y = (11, 11, 0))) ∧
    (∀ (gains : List Nat) (x y : Nat), x ≤ 1919 → y ≤ 1079 →
      let c0 := (gainColumns x).1
      let c1 := (gainColumns x).2.1
      let wx := (gainColumns x).2.2
      let r0 := (gainRows y).1
      let r1 := (gainRows y).2.1
      let wy := (gainRows y).2.2
      let g := fun c r => gains.getD (16 * r + c) 0
      let sum := g c0 r0 * (120 - wx) * (90 - wy) + g c1 r0 * wx * (90 - wy) + g c0 r1 * (120 - wx) * wy +
        g c1 r1 * wx * wy
      pixelGain gains x y = (2 * sum + 10800) / 21600 ∧
      (∀ lo hi, (∀ v ∈ [g c0 r0, g c1 r0, g c0 r1, g c1 r1], lo ≤ v ∧ v ≤ hi) →
        lo ≤ pixelGain gains x y ∧ pixelGain gains x y ≤ hi) ∧
      (wx = 0 → wy = 0 → pixelGain gains x y = g c0 r0)) ∧
    (∀ (t : List Nat) (y : Nat), t.length = 65 → t.Pairwise (· ≤ ·) → y ≤ 524287 →
      let i := y / 8192
      let low := t.getD i 0
      let high := t.getD (i + 1) 0
      i ≤ 63 ∧ y - 8192 * i ≤ 8191 ∧ displayCode t y = low + (high - low) * (y - 8192 * i) / 8192 ∧
      low ≤ displayCode t y ∧ displayCode t y ≤ high ∧
      t.getD 0 0 ≤ displayCode t y ∧ displayCode t y ≤ t.getD 64 0 ∧
      (∀ z, y ≤ z → z ≤ 524287 → displayCode t y ≤ displayCode t z) ∧
      (displayCode t 524287 = t.getD 64 0 → t.getD 63 0 = t.getD 64 0))) ∧
  (∀ (l : Latched) (q : Nat) (quads : List Quad), ∃ upper lower : List Nat,
    developRows l q quads = [(2 * q, upper), (2 * q + 1, lower)] ∧
    upper.length = 2 * quads.length ∧ lower.length = 2 * quads.length ∧
    ∀ (i : Nat) (u : Quad), quads[i]? = some u →
      let luminance := (u.r + u.g1 + u.g2 + u.b) / 4
      let code := fun (x y sample : Nat) =>
        let keyed := min 524287 (luminance * pixelGain l.map.gains x y / 4096 * l.key / 256)
        min 1023 (sample * displayCode l.table keyed / max 1 luminance)
      upper[2 * i]? = some (code (2 * i) (2 * q) u.r) ∧
      upper[2 * i + 1]? = some (code (2 * i + 1) (2 * q) u.g1) ∧
      lower[2 * i]? = some (code (2 * i) (2 * q + 1) u.g2) ∧
      lower[2 * i + 1]? = some (code (2 * i + 1) (2 * q + 1) u.b)) ∧
  ∀ (rows : List (Nat × List Nat)) (main wide : Window) (lines : List Nat) (degraded : Bool) (u v : Nat),
    u ≤ 1279 → v ≤ 799 →
    let code := fun x y => ((rows.lookup y).getD []).getD x 0
    let w := if v ≤ 519 then main else wide
    let x := w.x + u * w.w / 1280
    let y := if v ≤ 519 then w.y + v * w.h / 520 else w.y + (v - 520) * w.h / 280
    let left := x - x % 2
    let top := y - y % 2
    (0 < w.w → 0 < w.h → w.x ≤ x ∧ x < w.x + w.w ∧ w.y ≤ y ∧ y < w.y + w.h) ∧
    visiblePixel .startingPattern u v =
      (if 380 ≤ v ∧ v ≤ 419 then (768, 768, 768) else (256, 256, 256)) ∧
    visiblePixel .blankedPattern u v =
      (if v ≤ 15 ∨ 784 ≤ v ∨ u ≤ 15 ∨ 1264 ≤ u then (1023, 0, 0) else (0, 0, 0)) ∧
    visiblePixel (.image rows main wide lines degraded) u v =
      (if degraded = true ∧ v ≤ 31 ∧ 1248 ≤ u then (1023, 0, 0)
       else if v ≤ 519 ∧ v ∈ lines then (1023, 768, 0)
       else (code left top, (code (left + 1) top + code left (top + 1)) / 2, code (left + 1) (top + 1)))
end

