-- ==== Sys2Proof/Laws/Bytes.lean ====
section
/-! SUPPORT. Byte order: how long the bytes of a field are, and that they give the number back. -/

namespace Sys2Proof.Machine

@[simp] theorem le_length (n v : Nat) : (le n v).length = n := by
  induction n generalizing v with
  | zero => rfl
  | succ n ih => simp [le, ih]

@[simp] theorem leInt_length (n : Nat) (v : Int) : (leInt n v).length = n := by
  simp [leInt]

/-- The n bytes of a number give it back modulo 256 to the n. -/
theorem unLe_le (n v : Nat) : unLe (le n v) = v % 256 ^ n := by
  induction n generalizing v with
  | zero => simp [le, unLe, Nat.mod_one]
  | succ n ih =>
    have h : 256 ^ (n + 1) = 256 * 256 ^ n := by rw [Nat.pow_succ, Nat.mul_comm]
    rw [le, unLe, ih, BitVec.toNat_ofNat, h, Nat.mod_mul]

theorem unLe_le_of_lt {n v : Nat} (h : v < 256 ^ n) : unLe (le n v) = v := by
  rw [unLe_le, Nat.mod_eq_of_lt h]

@[simp] theorem field_length (bytes : List Byte) (offset n : Nat) : (field bytes offset n).length = n := by
  simp [field]

/-- A field that lies in the first of two lists of bytes. -/
theorem field_append_left {a b : List Byte} {offset n : Nat} (h : offset + n ≤ a.length) :
    field (a ++ b) offset n = field a offset n := by
  apply List.ext_getElem
  · simp
  · intro i h1 h2
    have hi : i < n := by simpa using h1
    simp only [field, List.getElem_map, List.getElem_range, List.getD_eq_getElem?_getD]
    rw [List.getElem?_append_left (by omega)]

/-- A field that lies in the second of two lists of bytes. -/
theorem field_append_right {a b : List Byte} {offset n : Nat} (h : a.length ≤ offset) :
    field (a ++ b) offset n = field b (offset - a.length) n := by
  apply List.ext_getElem
  · simp
  · intro i h1 h2
    simp only [field, List.getElem_map, List.getElem_range, List.getD_eq_getElem?_getD]
    rw [List.getElem?_append_right (by omega)]
    congr 3
    omega

/-- All the bytes of a list as one field. -/
theorem field_self (a : List Byte) : field a 0 a.length = a := by
  apply List.ext_getElem
  · simp
  · intro i h1 h2
    simp [field, List.getElem?_eq_getElem h2]

/-- A field at the start of a list that begins with its bytes. -/
theorem field_le_append (n v : Nat) (rest : List Byte) : field (le n v ++ rest) 0 n = le n v := by
  rw [field_append_left (by simp)]
  simpa using field_self (le n v)

theorem uField_le_append {n v : Nat} (h : v < 256 ^ n) (rest : List Byte) : uField (le n v ++ rest) 0 n = v := by
  rw [uField, field_le_append, unLe_le_of_lt h]

end Sys2Proof.Machine
end

