-- ==== Sys2Proof/Laws/State.lean ====
section
/-! SUPPORT. What the updates of the state leave in each field, one lemma for each field of each update, so that no
proof unfolds a record update. -/

namespace Sys2Proof.Machine

/-! ## A side replaced or changed -/

@[simp] theorem State.side_left (s : State) : s.side .left = s.left := rfl
@[simp] theorem State.side_right (s : State) : s.side .right = s.right := rfl

@[simp] theorem State.setSide_left (s : State) (d : SideState) : s.setSide .left d = { s with left := d } := rfl
@[simp] theorem State.setSide_right (s : State) (d : SideState) : s.setSide .right d = { s with right := d } := rfl

@[simp] theorem State.side_setSide (s : State) (x : Side) (d : SideState) : (s.setSide x d).side x = d := by
  cases x <;> rfl

theorem State.side_setSide_of_ne (s : State) {x y : Side} (d : SideState) (h : y ≠ x) :
    (s.setSide x d).side y = s.side y := by
  cases x <;> cases y <;> first | rfl | exact absurd rfl h

/-- Both cases at once: the side replaced, or the one that was there. -/
theorem State.side_setSide_eq (s : State) (x y : Side) (d : SideState) :
    (s.setSide x d).side y = if y = x then d else s.side y := by
  cases x <;> cases y <;> rfl

theorem State.side_onSide_eq (s : State) (x y : Side) (f : SideState → SideState) :
    (s.onSide x f).side y = if y = x then f (s.side x) else s.side y := by
  cases x <;> cases y <;> rfl

@[simp] theorem State.side_onSide (s : State) (x : Side) (f : SideState → SideState) :
    (s.onSide x f).side x = f (s.side x) := by
  cases x <;> rfl

theorem State.side_onSide_of_ne (s : State) {x y : Side} (f : SideState → SideState) (h : y ≠ x) :
    (s.onSide x f).side y = s.side y := by
  cases x <;> cases y <;> first | rfl | exact absurd rfl h
@[simp] theorem State.setSide_now (s : State) (x : Side) (d : SideState) :
    (s.setSide x d).now = s.now := by cases x <;> rfl
@[simp] theorem State.onSide_now (s : State) (x : Side) (f : SideState → SideState) :
    (s.onSide x f).now = s.now := by cases x <;> rfl
@[simp] theorem State.count_now (s : State) (x : Side) (f : Counters → Counters) :
    (s.count x f).now = s.now := by cases x <;> rfl
@[simp] theorem State.setSide_timing (s : State) (x : Side) (d : SideState) :
    (s.setSide x d).timing = s.timing := by cases x <;> rfl
@[simp] theorem State.onSide_timing (s : State) (x : Side) (f : SideState → SideState) :
    (s.onSide x f).timing = s.timing := by cases x <;> rfl
@[simp] theorem State.count_timing (s : State) (x : Side) (f : Counters → Counters) :
    (s.count x f).timing = s.timing := by cases x <;> rfl
@[simp] theorem State.setSide_signals (s : State) (x : Side) (d : SideState) :
    (s.setSide x d).signals = s.signals := by cases x <;> rfl
@[simp] theorem State.onSide_signals (s : State) (x : Side) (f : SideState → SideState) :
    (s.onSide x f).signals = s.signals := by cases x <;> rfl
@[simp] theorem State.count_signals (s : State) (x : Side) (f : Counters → Counters) :
    (s.count x f).signals = s.signals := by cases x <;> rfl
@[simp] theorem State.setSide_reports (s : State) (x : Side) (d : SideState) :
    (s.setSide x d).reports = s.reports := by cases x <;> rfl
@[simp] theorem State.onSide_reports (s : State) (x : Side) (f : SideState → SideState) :
    (s.onSide x f).reports = s.reports := by cases x <;> rfl
@[simp] theorem State.count_reports (s : State) (x : Side) (f : Counters → Counters) :
    (s.count x f).reports = s.reports := by cases x <;> rfl
@[simp] theorem State.setSide_health (s : State) (x : Side) (d : SideState) :
    (s.setSide x d).health = s.health := by cases x <;> rfl
@[simp] theorem State.onSide_health (s : State) (x : Side) (f : SideState → SideState) :
    (s.onSide x f).health = s.health := by cases x <;> rfl
@[simp] theorem State.count_health (s : State) (x : Side) (f : Counters → Counters) :
    (s.count x f).health = s.health := by cases x <;> rfl
@[simp] theorem State.setSide_link (s : State) (x : Side) (d : SideState) :
    (s.setSide x d).link = s.link := by cases x <;> rfl
@[simp] theorem State.onSide_link (s : State) (x : Side) (f : SideState → SideState) :
    (s.onSide x f).link = s.link := by cases x <;> rfl
@[simp] theorem State.count_link (s : State) (x : Side) (f : Counters → Counters) :
    (s.count x f).link = s.link := by cases x <;> rfl
@[simp] theorem State.setSide_store (s : State) (x : Side) (d : SideState) :
    (s.setSide x d).store = s.store := by cases x <;> rfl
@[simp] theorem State.onSide_store (s : State) (x : Side) (f : SideState → SideState) :
    (s.onSide x f).store = s.store := by cases x <;> rfl
@[simp] theorem State.count_store (s : State) (x : Side) (f : Counters → Counters) :
    (s.count x f).store = s.store := by cases x <;> rfl
@[simp] theorem State.setSide_powered (s : State) (x : Side) (d : SideState) :
    (s.setSide x d).powered = s.powered := by cases x <;> rfl
@[simp] theorem State.onSide_powered (s : State) (x : Side) (f : SideState → SideState) :
    (s.onSide x f).powered = s.powered := by cases x <;> rfl
@[simp] theorem State.count_powered (s : State) (x : Side) (f : Counters → Counters) :
    (s.count x f).powered = s.powered := by cases x <;> rfl
@[simp] theorem State.setSide_out (s : State) (x : Side) (d : SideState) :
    (s.setSide x d).out = s.out := by cases x <;> rfl
@[simp] theorem State.onSide_out (s : State) (x : Side) (f : SideState → SideState) :
    (s.onSide x f).out = s.out := by cases x <;> rfl
@[simp] theorem State.count_out (s : State) (x : Side) (f : Counters → Counters) :
    (s.count x f).out = s.out := by cases x <;> rfl
@[simp] theorem State.setSide_handed (s : State) (x : Side) (d : SideState) :
    (s.setSide x d).handed = s.handed := by cases x <;> rfl
@[simp] theorem State.onSide_handed (s : State) (x : Side) (f : SideState → SideState) :
    (s.onSide x f).handed = s.handed := by cases x <;> rfl
@[simp] theorem State.count_handed (s : State) (x : Side) (f : Counters → Counters) :
    (s.count x f).handed = s.handed := by cases x <;> rfl
@[simp] theorem State.setSide_freeCount (s : State) (x : Side) (d : SideState) :
    (s.setSide x d).freeCount = s.freeCount := by cases x <;> rfl
@[simp] theorem State.onSide_freeCount (s : State) (x : Side) (f : SideState → SideState) :
    (s.onSide x f).freeCount = s.freeCount := by cases x <;> rfl
@[simp] theorem State.count_freeCount (s : State) (x : Side) (f : Counters → Counters) :
    (s.count x f).freeCount = s.freeCount := by cases x <;> rfl
@[simp] theorem State.setSide_pending (s : State) (x : Side) (d : SideState) :
    (s.setSide x d).pending = s.pending := by cases x <;> rfl
@[simp] theorem State.onSide_pending (s : State) (x : Side) (f : SideState → SideState) :
    (s.onSide x f).pending = s.pending := by cases x <;> rfl
@[simp] theorem State.count_pending (s : State) (x : Side) (f : Counters → Counters) :
    (s.count x f).pending = s.pending := by cases x <;> rfl

theorem State.side_count_eq (s : State) (x y : Side) (f : Counters → Counters) :
    (s.count x f).side y =
      if y = x then { s.side x with counters := f (s.side x).counters } else s.side y := by
  cases x <;> cases y <;> rfl

/-! ## Outputs and transitions -/
@[simp] theorem State.emit_now (s : State) (o : Output) : (s.emit o).now = s.now := rfl
@[simp] theorem State.hand_now (s : State) (t : Transition) : (s.hand t).now = s.now := rfl
@[simp] theorem State.beginEvent_now (s : State) : s.beginEvent.now = s.now := rfl
@[simp] theorem State.emit_timing (s : State) (o : Output) : (s.emit o).timing = s.timing := rfl
@[simp] theorem State.hand_timing (s : State) (t : Transition) : (s.hand t).timing = s.timing := rfl
@[simp] theorem State.beginEvent_timing (s : State) : s.beginEvent.timing = s.timing := rfl
@[simp] theorem State.emit_signals (s : State) (o : Output) : (s.emit o).signals = s.signals := rfl
@[simp] theorem State.hand_signals (s : State) (t : Transition) : (s.hand t).signals = s.signals := rfl
@[simp] theorem State.beginEvent_signals (s : State) : s.beginEvent.signals = s.signals := rfl
@[simp] theorem State.emit_reports (s : State) (o : Output) : (s.emit o).reports = s.reports := rfl
@[simp] theorem State.hand_reports (s : State) (t : Transition) : (s.hand t).reports = s.reports := rfl
@[simp] theorem State.beginEvent_reports (s : State) : s.beginEvent.reports = s.reports := rfl
@[simp] theorem State.emit_health (s : State) (o : Output) : (s.emit o).health = s.health := rfl
@[simp] theorem State.hand_health (s : State) (t : Transition) : (s.hand t).health = s.health := rfl
@[simp] theorem State.beginEvent_health (s : State) : s.beginEvent.health = s.health := rfl
@[simp] theorem State.emit_link (s : State) (o : Output) : (s.emit o).link = s.link := rfl
@[simp] theorem State.hand_link (s : State) (t : Transition) : (s.hand t).link = s.link := rfl
@[simp] theorem State.beginEvent_link (s : State) : s.beginEvent.link = s.link := rfl
@[simp] theorem State.emit_store (s : State) (o : Output) : (s.emit o).store = s.store := rfl
@[simp] theorem State.hand_store (s : State) (t : Transition) : (s.hand t).store = s.store := rfl
@[simp] theorem State.beginEvent_store (s : State) : s.beginEvent.store = s.store := rfl
@[simp] theorem State.emit_powered (s : State) (o : Output) : (s.emit o).powered = s.powered := rfl
@[simp] theorem State.hand_powered (s : State) (t : Transition) : (s.hand t).powered = s.powered := rfl
@[simp] theorem State.beginEvent_powered (s : State) : s.beginEvent.powered = s.powered := rfl
@[simp] theorem State.hand_out (s : State) (t : Transition) : (s.hand t).out = s.out := rfl
@[simp] theorem State.emit_handed (s : State) (o : Output) : (s.emit o).handed = s.handed := rfl
@[simp] theorem State.emit_freeCount (s : State) (o : Output) : (s.emit o).freeCount = s.freeCount := rfl
@[simp] theorem State.hand_freeCount (s : State) (t : Transition) : (s.hand t).freeCount = s.freeCount := rfl
@[simp] theorem State.beginEvent_freeCount (s : State) : s.beginEvent.freeCount = s.freeCount := rfl
@[simp] theorem State.emit_pending (s : State) (o : Output) : (s.emit o).pending = s.pending := rfl
@[simp] theorem State.hand_pending (s : State) (t : Transition) : (s.hand t).pending = s.pending := rfl
@[simp] theorem State.beginEvent_pending (s : State) : s.beginEvent.pending = s.pending := rfl
@[simp] theorem State.emit_out (s : State) (o : Output) : (s.emit o).out = s.out ++ [o] := rfl
@[simp] theorem State.hand_handed (s : State) (t : Transition) : (s.hand t).handed = s.handed ++ [t] := rfl
@[simp] theorem State.beginEvent_out (s : State) : s.beginEvent.out = [] := rfl
@[simp] theorem State.beginEvent_handed (s : State) : s.beginEvent.handed = [] := rfl
@[simp] theorem State.emit_side (s : State) (o : Output) (x : Side) : (s.emit o).side x = s.side x := by
  cases x <;> rfl
@[simp] theorem State.hand_side (s : State) (t : Transition) (x : Side) : (s.hand t).side x = s.side x := by
  cases x <;> rfl
@[simp] theorem State.beginEvent_side (s : State) (x : Side) : s.beginEvent.side x = s.side x := by
  cases x <;> rfl

/-! ## Active fault sets -/

@[simp] theorem FaultSet.get_set_self (f : FaultSet) (k : FaultKind) (m : Member) : (f.set k m).get k = m := by
  cases k <;> rfl

theorem FaultSet.get_set_of_ne (f : FaultSet) {j k : FaultKind} (m : Member) (h : j ≠ k) :
    (f.set k m).get j = f.get j := by
  cases k <;> cases j <;> first | rfl | exact absurd rfl h

/-- Both cases at once: the kind set, or how the kind stood. -/
theorem FaultSet.get_set_eq (f : FaultSet) (j k : FaultKind) (m : Member) :
    (f.set k m).get j = if j = k then m else f.get j := by
  by_cases h : j = k
  · subst h; simp
  · simp [h, FaultSet.get_set_of_ne f m h]

/-- A set is how each kind stands in it. -/
theorem FaultSet.ext_get {f g : FaultSet} (h : ∀ k, f.get k = g.get k) : f = g := by
  cases f; cases g
  simp only [FaultSet.mk.injEq]
  exact ⟨h .linkLost, h .frameMalformed, h .sensorFrozen, h .displayRepeat, h .latencyOver, h .echoLost,
    h .tagMismatch, h .sideCrossed, h .triggerLate, h .cameraControlFail, h .startTimeout, h .calibrationDamaged,
    h .vehicleSignalStale, h .supplyLow, h .supplyCritical, h .tempHigh, h .tempCritical, h .phaseUnlocked⟩

@[simp] theorem State.faults_setFault_self (s : State) (x : Side) (k : FaultKind) (m : Member) :
    (s.setFault x k m).faults x = (s.faults x).set k m := by
  cases x <;> rfl

theorem State.faults_setFault_eq (s : State) (x y : Side) (k : FaultKind) (m : Member) :
    (s.setFault x k m).faults y = if y = x then (s.faults x).set k m else s.faults y := by
  cases x <;> cases y <;> rfl

@[simp] theorem State.hand_faults (s : State) (t : Transition) (x : Side) : (s.hand t).faults x = s.faults x := by
  cases x <;> rfl
@[simp] theorem State.emit_faults (s : State) (o : Output) (x : Side) : (s.emit o).faults x = s.faults x := by
  cases x <;> rfl
@[simp] theorem State.setFault_now (s : State) (x : Side) (k : FaultKind) (m : Member) :
    (s.setFault x k m).now = s.now := by cases x <;> rfl
@[simp] theorem State.setFault_timing (s : State) (x : Side) (k : FaultKind) (m : Member) :
    (s.setFault x k m).timing = s.timing := by cases x <;> rfl
@[simp] theorem State.setFault_signals (s : State) (x : Side) (k : FaultKind) (m : Member) :
    (s.setFault x k m).signals = s.signals := by cases x <;> rfl
@[simp] theorem State.setFault_reports (s : State) (x : Side) (k : FaultKind) (m : Member) :
    (s.setFault x k m).reports = s.reports := by cases x <;> rfl
@[simp] theorem State.setFault_health (s : State) (x : Side) (k : FaultKind) (m : Member) :
    (s.setFault x k m).health = s.health := by cases x <;> rfl
@[simp] theorem State.setFault_link (s : State) (x : Side) (k : FaultKind) (m : Member) :
    (s.setFault x k m).link = s.link := by cases x <;> rfl
@[simp] theorem State.setFault_store (s : State) (x : Side) (k : FaultKind) (m : Member) :
    (s.setFault x k m).store = s.store := by cases x <;> rfl
@[simp] theorem State.setFault_powered (s : State) (x : Side) (k : FaultKind) (m : Member) :
    (s.setFault x k m).powered = s.powered := by cases x <;> rfl
@[simp] theorem State.setFault_out (s : State) (x : Side) (k : FaultKind) (m : Member) :
    (s.setFault x k m).out = s.out := by cases x <;> rfl
@[simp] theorem State.setFault_handed (s : State) (x : Side) (k : FaultKind) (m : Member) :
    (s.setFault x k m).handed = s.handed := by cases x <;> rfl
@[simp] theorem State.setFault_freeCount (s : State) (x : Side) (k : FaultKind) (m : Member) :
    (s.setFault x k m).freeCount = s.freeCount := by cases x <;> rfl
@[simp] theorem State.setFault_pending (s : State) (x : Side) (k : FaultKind) (m : Member) :
    (s.setFault x k m).pending = s.pending := by cases x <;> rfl

end Sys2Proof.Machine
end

