-- ==== Sys2Proof/Laws/Channel.lean ====
section
/-! SUPPORT. What a dispatch and an admission do to the state, each said once. -/

namespace Sys2Proof.Machine

/-- A channel after a dispatch (R24). -/
def dispatched (c : Channel) (now : PartTime) : Channel :=
  match c.inFlight, c.queue with
  | none, t :: rest => c.sendOldest now t rest
  | _, _ => c

/-- What a dispatch sends. -/
def dispatchOutput (x : Side) (c : Channel) : List Output :=
  match c.inFlight, c.queue with
  | none, t :: _ => [.transaction x (transactionBytes t (c.attempt + 1))]
  | _, _ => []

/-- A dispatch changes the channel of its side and what is sent out, and nothing else. -/
theorem dispatch_eq (x : Side) (s : State) :
    dispatch x s =
      { s.setSide x { s.side x with channel := dispatched (s.side x).channel s.now } with
        out := s.out ++ dispatchOutput x (s.side x).channel } := by
  unfold dispatch dispatched dispatchOutput
  cases h : (s.side x).channel.inFlight <;> cases hq : (s.side x).channel.queue <;>
    cases x <;> simp_all [State.onSide, State.emit]

/-- The channel of a side after an admission (R22 to R24). -/
def admittedChannel (t : Transaction) (c : Channel) (now : PartTime) : Channel :=
  dispatched { c with queue := admitQueue t c.queue } now

/-- An admission changes the channel of its side and what is sent out, and nothing else. -/
theorem admit_eq (x : Side) (t : Transaction) (s : State) :
    submit x t s =
      { s.setSide x { s.side x with channel := admittedChannel t (s.side x).channel s.now } with
        out := s.out ++ dispatchOutput x { (s.side x).channel with queue := admitQueue t (s.side x).channel.queue } } := by
  unfold submit
  rw [dispatch_eq]
  cases x <;> rfl

/-- The channel after an admission hangs on the channel before it and on part time alone. -/
theorem admit_channel (x : Side) (t : Transaction) (s : State) :
    ((submit x t s).side x).channel = admittedChannel t (s.side x).channel s.now := by
  rw [admit_eq]; cases x <;> rfl

/-- After a dispatch the queue is empty unless a transaction is in flight. -/
theorem dispatched_quiet (c : Channel) (now : PartTime) (h : (dispatched c now).inFlight = none) :
    (dispatched c now).queue = [] := by
  unfold dispatched at *
  cases hf : c.inFlight <;> cases hq : c.queue <;> simp_all [Channel.sendOldest]

/-- Every other field of the state after an admission. -/
theorem admit_frame (x : Side) (t : Transaction) (s : State) :
    (submit x t s).now = s.now ∧ (submit x t s).timing = s.timing ∧ (submit x t s).signals = s.signals ∧
      (submit x t s).reports = s.reports ∧ (submit x t s).health = s.health ∧ (submit x t s).link = s.link ∧
      (submit x t s).store = s.store ∧ (submit x t s).powered = s.powered ∧ (submit x t s).handed = s.handed ∧
      (submit x t s).freeCount = s.freeCount ∧ (submit x t s).pending = s.pending := by
  rw [admit_eq]; cases x <;> simp

end Sys2Proof.Machine
end

