-- ==== Sys2Proof/Laws/Geometry.lean ====
section
/-! SUPPORT. The slew of a displayed window: how each of its values moves, and that it stays inside the bounds. -/

namespace Sys2Proof.Machine

/-- A slewed value is the target, where that is at most 24 away, or 24 nearer to it (R109). -/
theorem slewValue_cases (v t : Nat) :
    (v ≤ t + 24 ∧ t ≤ v + 24 ∧ slewValue v t = t) ∨ (v + 24 < t ∧ slewValue v t = v + 24) ∨ (t + 24 < v ∧ slewValue v t = v - 24) := by
  unfold slewValue; split <;> split <;> omega

theorem slewValue_even {v t : Nat} (hv : v % 2 = 0) (ht : t % 2 = 0) : slewValue v t % 2 = 0 := by
  rcases slewValue_cases v t with ⟨_, _, h⟩ | ⟨_, h⟩ | ⟨_, h⟩ <;> omega

/-- An interval that slews from inside a range to a place inside it stays inside. -/
theorem slewValue_inside {low high v w tv tw : Nat} (h1 : low ≤ v) (h2 : v + w ≤ high) (h3 : low ≤ tv)
    (h4 : tv + tw ≤ high) : low ≤ slewValue v tv ∧ slewValue v tv + slewValue w tw ≤ high := by
  rcases slewValue_cases v tv with ⟨_, _, h⟩ | ⟨_, h⟩ | ⟨_, h⟩ <;> rcases slewValue_cases w tw with ⟨_, _, g⟩ | ⟨_, g⟩ | ⟨_, g⟩ <;>
    omega

theorem slewWindow_inside {b shown target : Window} (h1 : inside b shown = true) (h2 : inside b target = true) :
    inside b (slewWindow shown target) = true := by
  simp only [inside, Bool.and_eq_true, decide_eq_true_eq] at *
  obtain ⟨⟨⟨a1, a2⟩, a3⟩, a4⟩ := h1
  obtain ⟨⟨⟨c1, c2⟩, c3⟩, c4⟩ := h2
  have hx := slewValue_inside a1 a2 c1 c2
  have hy := slewValue_inside a3 a4 c3 c4
  exact ⟨⟨⟨hx.1, hx.2⟩, hy.1⟩, hy.2⟩

/-- Overrides that are already in force change nothing. -/
theorem setOverrides_self (x : Side) (g : Geometry) : setOverrides x g.overrides g = g := by
  simp [setOverrides]

/-- Resolving windows that are already resolved changes nothing. -/
theorem resolve_of_resolved {x : Side} {g : Geometry} (h1 : g.mainInForce = resolveMain x g)
    (h2 : g.wideInForce = resolveWide g) : resolve x g = g := by
  simp [resolve, ← h1, ← h2]

/-- Where the windows in force are resolved, a change of overrides is a change and a resolution, whether or not the
list changed. -/
theorem setOverrides_eq {x : Side} {g : Geometry} (o : Overrides) (h1 : g.mainInForce = resolveMain x g)
    (h2 : g.wideInForce = resolveWide g) : setOverrides x o g = resolve x { g with overrides := o } := by
  unfold setOverrides
  split
  · next h => subst h; exact (resolve_of_resolved h1 h2).symm
  · rfl

end Sys2Proof.Machine
end

