-- ==== Sys2Proof/Laws/Glare.lean ====
section
/-! SUPPORT. The lists of the Glare Tracker: ordered insertion keeps the elements, the walk's grants change nothing but
the grant flags, and what a walk may grant. -/

namespace Sys2Proof.Machine

theorem mem_insertBy {α : Type} {before : α → α → Bool} {a b : α} {l : List α} :
    b ∈ insertBy before a l ↔ b = a ∨ b ∈ l := by
  induction l with
  | nil => simp [insertBy]
  | cons c l ih =>
    unfold insertBy
    split
    · simp
    · simp only [List.mem_cons, ih]; exact or_left_comm

/-- A sorted list has the elements of the list. -/
theorem mem_sortBy {α : Type} {before : α → α → Bool} {b : α} {l : List α} : b ∈ sortBy before l ↔ b ∈ l := by
  induction l with
  | nil => simp [sortBy]
  | cons c l ih =>
    have e : sortBy before (c :: l) = insertBy before c (sortBy before l) := rfl
    rw [e, mem_insertBy, ih, List.mem_cons]

theorem length_insertBy {α : Type} (before : α → α → Bool) (a : α) (l : List α) :
    (insertBy before a l).length = l.length + 1 := by
  induction l with
  | nil => rfl
  | cons c l ih => unfold insertBy; split <;> simp [ih]

theorem length_sortBy {α : Type} (before : α → α → Bool) (l : List α) : (sortBy before l).length = l.length := by
  induction l with
  | nil => rfl
  | cons c l ih =>
    have e : sortBy before (c :: l) = insertBy before c (sortBy before l) := rfl
    rw [e, length_insertBy, ih, List.length_cons]

/-- Giving grants keeps every entry's identifier. -/
theorem applyGrants_idents (a : Walk) (table : List GlareEntry) :
    (applyGrants a table).map GlareEntry.ident = table.map GlareEntry.ident := by
  simp [applyGrants, Function.comp_def]

/-- A granted walk step keeps both counts within the caps. -/
theorem grantStep_caps (main wide : Window) (cap : Nat) (a : Walk) (e : GlareEntry)
    (hm : a.mainCount ≤ windowCap cap main) (hw : a.wideCount ≤ windowCap cap wide) :
    (grantStep main wide cap a e).mainCount ≤ windowCap cap main ∧
      (grantStep main wide cap a e).wideCount ≤ windowCap cap wide := by
  unfold grantStep
  dsimp only
  split
  · exact ⟨hm, hw⟩
  · next h => exact ⟨Nat.not_lt.1 fun c => h (.inl c), Nat.not_lt.1 fun c => h (.inr c)⟩

/-- The identifier after one is never 0 (R67). -/
theorem nextIdent_range (c : Nat) : 1 ≤ nextIdent c ∧ nextIdent c ≤ 255 := by
  unfold nextIdent; split <;> omega

theorem freeIdent_range (used : List Nat) (n c : Nat) : 1 ≤ freeIdent used n c ∧ freeIdent used n c ≤ 255 := by
  induction n generalizing c with
  | zero => exact nextIdent_range c
  | succ n ih =>
    unfold freeIdent
    split
    · exact ih _
    · exact nextIdent_range c

end Sys2Proof.Machine
end

