-- ==== Sys2Proof/Laws/Link.lean ====
section
/-! SUPPORT. What a link window and a request do once for all: a reply placed, a window closed, and a request that
reaches its owning rule. -/

namespace Sys2Proof.Machine

theorem openedWindow_beginEvent (s : State) : openedWindow s.beginEvent = openedWindow s := rfl

theorem closingWindow_beginEvent (s : State) : closingWindow s.beginEvent = closingWindow s := rfl

/-- A window opened by CHIP_SELECT_FALLING is the one that closes. -/
theorem closingWindow_of_open {s : State} {w : LinkWindow} (h : s.link.window = some w) : closingWindow s = w := by
  simp [closingWindow, h]

/-- A reply placed changes the link alone, as `placedLink` says. -/
theorem placeReply_eq (frame : List Byte) (s : State) :
    placeReply frame s = { s with link := placedLink s.link frame } := by
  cases h : s.link.slot <;> simp [placeReply, placedLink, h]

/-- The close of a window in which no reset was made. -/
theorem closeWindow_eq {s : State} (n : Nat) (carried : List Byte) (h : (closingWindow s).spannedReset = false) :
    closeWindow n carried s =
      { s with
        link := { s.link with window := none },
        out := s.out ++ [.shifted (windowOutput (closingWindow s) n carried)] } := by
  simp [closeWindow, shiftedBytes, h]

/-- What a request that reaches its owning rule does: the rule acts on the state with the frame counted, and its
reply is placed. -/
theorem exec_request {k : RequestKind} {p : List Byte} {s : State} (tag : Byte) (h : Answerable k p s) :
    exec (request k tag p) s = .next (placeAnswer k tag (ownerOf k tag p (requestTaken p.length s))) := by
  have hc : (closingWindow s.beginEvent).spannedReset = false := h.window
  have hs : inRequestSet (requestTaken p.length s) k = true := h.inSet
  have key : ∀ own : State → Answer,
      serve k tag p own s.beginEvent = placeAnswer k tag (own (requestTaken p.length s)) := by
    intro own
    have e : countFrame (closeWindow (p.length + 6) [] s.beginEvent) = requestTaken p.length s := by
      rw [closeWindow_eq _ _ hc]; rfl
    simp [serve, hc, e, takeFrame, Nat.not_lt.2 h.fits, h.length, hs]
  have hp : s.powered = true := h.powered
  cases k <;>
    simp only [request, exec, execStatus, execIdentify, execStartView, execStopView, execSetTiming, execVehicleState,
      execAdjustView, execInspect, execEndInspect, execSetGlare, execSetTone, execSetExposureLimits, execReadGlare,
      execFetchReports, execReadHealth, execReadCounters, execRestoreView, execStoreUnlock, execStoreRead,
      execStoreWrite, execStoreErase, execStoreProtect, execStoreLockFactory, execLoadProfile, execSaveProfile,
      execStandby, execWake, execReset, event, hp, if_true, key, ownerOf]

/-- A request whose owning rule answers with a state, a result and a payload. -/
theorem exec_request_of_answer {k : RequestKind} {p : List Byte} {s t : State} {r : ResultCode} {payload : List Byte}
    (tag : Byte) (h : Answerable k p s) (e : ownerOf k tag p (requestTaken p.length s) = answerWith t r payload) :
    exec (request k tag p) s =
      .next { t with link := placedLink t.link (replyFrame (kindCode k) tag r payload) } := by
  rw [exec_request tag h, e]
  simp [placeAnswer, answerWith, placeReply_eq]

/-- A request that its owning rule refuses, or that changes nothing, leaves `answered`. -/
theorem exec_request_unchanged {k : RequestKind} {p : List Byte} {s : State} {r : ResultCode} {payload : List Byte}
    (tag : Byte) (h : Answerable k p s)
    (e : ownerOf k tag p (requestTaken p.length s) = answerWith (requestTaken p.length s) r payload) :
    exec (request k tag p) s = .next (answered k tag p.length r payload s) :=
  exec_request_of_answer tag h e

/-- A reply without a payload is one whose payload is empty. -/
theorem answer_eq (s : State) (r : ResultCode) : answer s r = answerWith s r [] := rfl

/-! ## Side codes -/

theorem namedSides_none {n : Nat} (h : 2 < n) : namedSides n = none := by
  match n, h with
  | n + 3, _ => rfl

theorem oneSide_none {n : Nat} (h : 1 < n) : oneSide n = none := by
  match n, h with
  | n + 2, _ => rfl

theorem oneSide_sideCode (x : Side) : oneSide (sideCode x) = some x := by
  cases x <;> rfl

/-- The sides that a code of at most 2 names. -/
theorem namedSides_some {n : Nat} (h : n ≤ 2) :
    namedSides n = some ((if names n .left then [.left] else []) ++ (if names n .right then [.right] else [])) := by
  match n, h with
  | 0, _ => rfl
  | 1, _ => rfl
  | 2, _ => rfl

/-! ## Clamping -/

theorem clampNat_eq {lo hi v : Nat} (h : lo ≤ hi) : clampNat lo hi v = max lo (min hi v) := by
  unfold clampNat; split <;> (try split) <;> omega

theorem clampInt_eq {lo hi v : Int} (h : lo ≤ hi) : clampInt lo hi v = max lo (min hi v) := by
  unfold clampInt; split <;> (try split) <;> omega

end Sys2Proof.Machine
end

