-- ==== Sys2Proof/Laws/Memory.lean ====
section
/-! SUPPORT. The cells of the store: a read after a write, that a write leaves every other cell alone, and that every
operation on the cells keeps their canonical form. -/

namespace Sys2Proof.Machine

/-! ## Rising addresses -/

theorem cellsRising_mono {low low' : Nat} {cells : List Host.Cell} (h : low' ≤ low)
    (w : cellsRising low cells = true) : cellsRising low' cells = true := by
  cases cells with
  | nil => rfl
  | cons c rest =>
    obtain ⟨k, v⟩ := c
    simp only [cellsRising, Bool.and_eq_true, decide_eq_true_eq] at w ⊢
    exact ⟨⟨⟨by omega, w.1.1.2⟩, w.1.2⟩, w.2⟩

/-- An address below the least one reads as erased. -/
theorem readCell_below {low a : Nat} {cells : List Host.Cell} (w : cellsRising low cells = true) (h : a < low) :
    readCell cells a = 0xFF := by
  induction cells generalizing low with
  | nil => rfl
  | cons c rest ih =>
    obtain ⟨k, v⟩ := c
    simp only [cellsRising, Bool.and_eq_true, decide_eq_true_eq] at w
    have hne : k ≠ a := by omega
    simp only [readCell, hne, if_false]
    exact ih w.2 (by omega)

/-! ## Dropping and putting an entry -/

theorem dropCell_rising {low a : Nat} {cells : List Host.Cell} (w : cellsRising low cells = true) :
    cellsRising low (dropCell cells a) = true := by
  induction cells generalizing low with
  | nil => rfl
  | cons c rest ih =>
    obtain ⟨k, v⟩ := c
    simp only [cellsRising, Bool.and_eq_true, decide_eq_true_eq] at w
    by_cases h : k = a
    · simp only [dropCell, h, if_true]
      exact cellsRising_mono (by omega) w.2
    · simp only [dropCell, h, if_false, cellsRising, Bool.and_eq_true, decide_eq_true_eq]
      exact ⟨w.1, ih w.2⟩

theorem readCell_dropCell {low a : Nat} {cells : List Host.Cell} (w : cellsRising low cells = true) (b : Nat) :
    readCell (dropCell cells a) b = if b = a then 0xFF else readCell cells b := by
  induction cells generalizing low with
  | nil => simp [dropCell, readCell]
  | cons c rest ih =>
    obtain ⟨k, v⟩ := c
    simp only [cellsRising, Bool.and_eq_true, decide_eq_true_eq] at w
    by_cases h : k = a
    · subst h
      simp only [dropCell, if_true, readCell]
      by_cases hb : b = k
      · subst hb; simp [readCell_below w.2 (Nat.lt_succ_self _)]
      · simp [hb, Ne.symm hb]
    · simp only [dropCell, h, if_false, readCell]
      by_cases hb : k = b
      · subst hb; simp [h]
      · simp [hb, ih w.2]

theorem putCell_rising {low a : Nat} {v : Byte} {cells : List Host.Cell} (w : cellsRising low cells = true)
    (hl : low ≤ a) (ha : a < storeSize) (hv : v ≠ 0xFF) : cellsRising low (putCell cells a v) = true := by
  induction cells generalizing low with
  | nil => simpa [putCell, cellsRising, hl, ha] using hv
  | cons c rest ih =>
    obtain ⟨k, u⟩ := c
    simp only [cellsRising, Bool.and_eq_true, decide_eq_true_eq] at w
    by_cases h1 : a < k
    · simp only [putCell, h1, if_true, cellsRising, Bool.and_eq_true, decide_eq_true_eq]
      refine ⟨⟨⟨hl, ha⟩, by simpa using hv⟩, ⟨⟨by omega, w.1.1.2⟩, w.1.2⟩, w.2⟩
    · by_cases h2 : a = k
      · subst h2
        simp only [putCell, if_true, cellsRising, Bool.and_eq_true, decide_eq_true_eq, Nat.lt_irrefl, if_false]
        exact ⟨⟨⟨hl, ha⟩, by simpa using hv⟩, w.2⟩
      · simp only [putCell, h1, h2, if_false, cellsRising, Bool.and_eq_true, decide_eq_true_eq]
        exact ⟨w.1, ih w.2 (by omega)⟩

theorem readCell_putCell {a : Nat} {v : Byte} {cells : List Host.Cell} (b : Nat) :
    readCell (putCell cells a v) b = if b = a then v else readCell cells b := by
  induction cells with
  | nil => by_cases h : a = b <;> simp [putCell, readCell, h, eq_comm]
  | cons c rest ih =>
    obtain ⟨k, u⟩ := c
    by_cases h1 : a < k
    · by_cases hb : a = b
      · subst hb; simp [putCell, h1, readCell]
      · simp [putCell, h1, readCell, hb, Ne.symm hb]
    · by_cases h2 : a = k
      · subst h2
        by_cases hb : a = b
        · subst hb; simp [putCell, readCell]
        · simp [putCell, readCell, hb, Ne.symm hb]
      · simp only [putCell, h1, h2, if_false, readCell]
        by_cases hb : k = b
        · subst hb; simp [Ne.symm h2]
        · simp [hb, ih]

/-! ## Setting and clearing bits -/

/-- A cell set keeps the canonical form. -/
theorem setCell_wf {cells : List Host.Cell} {a : Nat} (v : Byte) (w : cellsWf cells = true) (ha : a < storeSize) :
    cellsWf (setCell cells a v) = true := by
  by_cases hv : v = 0xFF
  · simp only [setCell, hv, if_true]; exact dropCell_rising w
  · simp only [setCell, hv, if_false]; exact putCell_rising w (Nat.zero_le _) ha hv

/-- A cell set reads as the value set, every other cell as before. -/
theorem readCell_setCell {cells : List Host.Cell} (a : Nat) (v : Byte) (w : cellsWf cells = true) (b : Nat) :
    readCell (setCell cells a v) b = if b = a then v else readCell cells b := by
  by_cases hv : v = 0xFF
  · simp only [setCell, hv, if_true]; exact readCell_dropCell w b
  · simp only [setCell, hv, if_false]; exact readCell_putCell b

theorem andCell_wf {cells : List Host.Cell} {a : Nat} (v : Byte) (w : cellsWf cells = true) (ha : a < storeSize) :
    cellsWf (andCell cells a v) = true :=
  setCell_wf _ w ha

/-- R185: a write of a byte leaves the AND in its cell and every other cell alone. -/
theorem readCell_andCell {cells : List Host.Cell} (a : Nat) (v : Byte) (w : cellsWf cells = true) (b : Nat) :
    readCell (andCell cells a v) b = if b = a then readCell cells a &&& v else readCell cells b :=
  readCell_setCell a _ w b

/-! ## Blocks -/

theorem cellAddress_lt {block offset : Nat} (hb : block ≤ 63) (ho : offset < 128) :
    cellAddress block offset < storeSize := by
  unfold cellAddress storeSize; omega

theorem writeBlock_wf {block : Nat} (hb : block ≤ 63) (data : List Byte) :
    ∀ (offset : Nat) {cells : List Host.Cell}, cellsWf cells = true → cellsWf (writeBlock block offset data cells) = true := by
  induction data with
  | nil => intro _ _ w; exact w
  | cons b bs ih =>
    intro offset cells w
    exact ih _ (andCell_wf _ w (cellAddress_lt hb (Nat.mod_lt _ (by decide))))

theorem eraseBytes_wf {block : Nat} (hb : block ≤ 63) :
    ∀ (n : Nat) {cells : List Host.Cell}, n ≤ 128 → cellsWf cells = true → cellsWf (eraseBytes block n cells) = true := by
  intro n
  induction n with
  | zero => intro _ _ w; exact w
  | succ n ih => intro cells h w; exact ih (by omega) (setCell_wf _ w (cellAddress_lt hb (by omega)))

theorem eraseBlock_wf {block : Nat} (hb : block ≤ 63) {cells : List Host.Cell} (w : cellsWf cells = true) :
    cellsWf (eraseBlock block cells) = true :=
  eraseBytes_wf hb 128 (Nat.le_refl _) w

theorem lossWrite_wf {block : Nat} (hb : block ≤ 63) (data : List Byte) :
    ∀ (offset n : Nat) {cells : List Host.Cell}, cellsWf cells = true →
      cellsWf (lossWrite block offset n data cells) = true := by
  induction data with
  | nil => intro _ _ _ w; exact w
  | cons b bs ih =>
    intro offset n cells w
    unfold lossWrite
    apply ih
    split
    · exact andCell_wf _ w (cellAddress_lt hb (Nat.mod_lt _ (by decide)))
    · exact w

theorem lossErase_wf {block first : Nat} (hb : block ≤ 63) :
    ∀ (n : Nat) {cells : List Host.Cell}, n ≤ 128 → cellsWf cells = true →
      cellsWf (lossErase block first n cells) = true := by
  intro n
  induction n with
  | zero => intro _ _ w; exact w
  | succ n ih =>
    intro cells h w
    unfold lossErase
    apply ih (by omega)
    split
    · exact setCell_wf _ w (cellAddress_lt hb (by omega))
    · exact w

/-- An address outside a block is not one of its cells. -/
theorem cellAddress_ne {block other offset o : Nat} (h : other ≠ block) (ho : offset < 128) (h2 : o < 128) :
    cellAddress other o ≠ cellAddress block offset := by
  unfold cellAddress; omega

theorem readCell_writeBlock_other {block : Nat} (hb : block ≤ 63) (data : List Byte) :
    ∀ (offset : Nat) {cells : List Host.Cell} (other o : Nat), cellsWf cells = true → other ≠ block → o < 128 →
      readCell (writeBlock block offset data cells) (cellAddress other o) = readCell cells (cellAddress other o) := by
  induction data with
  | nil => intro _ _ _ _ _ _ _; rfl
  | cons b bs ih =>
    intro offset cells other o w hne ho
    unfold writeBlock
    rw [ih _ other o (andCell_wf _ w (cellAddress_lt hb (Nat.mod_lt _ (by decide)))) hne ho, readCell_andCell _ _ w]
    rw [if_neg (cellAddress_ne hne (Nat.mod_lt _ (by decide)) ho)]

theorem readCell_eraseBytes {block : Nat} (hb : block ≤ 63) :
    ∀ (n : Nat) {cells : List Host.Cell} (a : Nat), n ≤ 128 → cellsWf cells = true →
      readCell (eraseBytes block n cells) a =
        if cellAddress block 0 ≤ a ∧ a < cellAddress block n then 0xFF else readCell cells a := by
  intro n
  induction n with
  | zero => intro cells a _ _; rw [if_neg (by omega)]; rfl
  | succ n ih =>
    intro cells a h w
    unfold eraseBytes
    rw [ih a (by omega) (setCell_wf _ w (cellAddress_lt hb (by omega))), readCell_setCell _ _ w]
    unfold cellAddress
    by_cases h1 : 128 * block + 0 ≤ a ∧ a < 128 * block + n
    · rw [if_pos h1, if_pos (by omega)]
    · rw [if_neg h1]
      by_cases h2 : a = 128 * block + n
      · rw [if_pos h2, if_pos (by omega)]
      · rw [if_neg h2, if_neg (by omega)]

/-- R185, R191: an erase leaves 0xFF in every cell of its block and every other cell alone. -/
theorem readCell_eraseBlock {block : Nat} (hb : block ≤ 63) {cells : List Host.Cell} (a : Nat)
    (w : cellsWf cells = true) :
    readCell (eraseBlock block cells) a = if a / 128 = block then 0xFF else readCell cells a := by
  unfold eraseBlock
  rw [readCell_eraseBytes hb 128 a (Nat.le_refl _) w]
  unfold cellAddress
  by_cases h : a / 128 = block
  · rw [if_pos h, if_pos (by omega)]
  · rw [if_neg h, if_neg (by omega)]

theorem readCells_length (cells : List Host.Cell) (a n : Nat) : (readCells cells a n).length = n := by
  induction n generalizing a with
  | zero => rfl
  | succ n ih => simp [readCells, ih]

theorem readCells_getElem? (cells : List Host.Cell) (a n i : Nat) (h : i < n) :
    (readCells cells a n)[i]? = some (readCell cells (a + i)) := by
  induction n generalizing a i with
  | zero => omega
  | succ n ih =>
    cases i with
    | zero => rfl
    | succ i =>
      simp only [readCells, List.getElem?_cons_succ]
      rw [ih (a + 1) i (by omega)]
      congr 2; omega

/-- The store as the part leaves the factory is in canonical form. -/
theorem reset_cellsWf : cellsWf State.reset.store.cells = true := rfl

end Sys2Proof.Machine
end

