-- ==== Sys2Proof/Laws/Store.lean ====
section
/-! SUPPORT. What a modifying request can leave, what the end of QUIESCING does, and which bytes a phase of a store
operation, or a loss of power in it, can change. -/

namespace Sys2Proof.Machine

/-- The three states a modifying request can leave (R188): nothing changed, the latch used, the operation started. -/
theorem modify_cases (shut : Bool) (w : StoreWork) (s : State) :
    (modify shut w s).state = s ∨ (modify shut w s).state = useLatch s ∨
      ((modify shut w s).state = startOperation w (useLatch s) ∧ s.store.operation = none ∧ s.store.latch = true ∧
        shut = false) := by
  unfold modify
  cases h1 : s.store.operation <;> cases h2 : s.store.latch <;> cases shut <;> simp [answer]
  split
  · exact .inr (.inl rfl)
  · split
    · exact .inr (.inl rfl)
    · exact .inr (.inr rfl)

/-- Every modifying request is replied to. -/
theorem modify_replies (shut : Bool) (w : StoreWork) (s : State) : ∃ r, (modify shut w s).reply = some (r, []) := by
  unfold modify
  split
  · exact ⟨_, rfl⟩
  · split
    · exact ⟨_, rfl⟩
    · split
      · exact ⟨_, rfl⟩
      · split
        · exact ⟨_, rfl⟩
        · split <;> exact ⟨_, rfl⟩

/-- The end of QUIESCING changes the link alone. -/
theorem endQuiescing_eq (s : State) :
    endQuiescing s = { s with link :=
      if s.link.part = .quiescing ∧ atRest s then
        { s.link with
          part := .standby,
          wakeTimer := if s.link.pendingWake.isSome then some (after s.now 2000) else s.link.wakeTimer }
      else s.link } := by
  unfold endQuiescing
  split <;> simp_all

/-- The phase in progress of an allowed operation keeps the cells in canonical form. -/
theorem phaseCells_wf {st : Store} {w : StoreWork} (h : workAllowed st w) (hc : cellsWf st.cells = true) :
    cellsWf (phaseCells w st.cells) = true := by
  cases w with
  | write block offset data => exact writeBlock_wf h.1 data _ hc
  | erase block => exact eraseBlock_wf h.1 hc
  | lock => exact hc
  | save n bytes phase =>
    have hn : n ≤ 3 := h.1
    have h8 : 8 + 2 * n ≤ 63 := by omega
    have h9 : 9 + 2 * n ≤ 63 := by omega
    unfold phaseCells
    dsimp only
    split
    · exact eraseBlock_wf h8 hc
    · split
      · exact eraseBlock_wf h9 hc
      · split
        · exact writeBlock_wf h8 _ _ hc
        · exact writeBlock_wf h9 _ _ hc

/-- A loss of power in a phase of an allowed operation keeps the cells in canonical form. -/
theorem lossCells_wf {st : Store} {w : StoreWork} (n : Nat) (h : workAllowed st w) (hc : cellsWf st.cells = true) :
    cellsWf (lossCells w n st.cells) = true := by
  cases w with
  | write block offset data => exact lossWrite_wf h.1 data _ _ hc
  | erase block => exact lossErase_wf h.1 128 (Nat.le_refl _) hc
  | lock => exact hc
  | save p bytes phase =>
    have hn : p ≤ 3 := h.1
    have h8 : 8 + 2 * p ≤ 63 := by omega
    have h9 : 9 + 2 * p ≤ 63 := by omega
    unfold lossCells
    dsimp only
    split
    · exact lossErase_wf h8 128 (Nat.le_refl _) hc
    · split
      · exact lossErase_wf h9 128 (Nat.le_refl _) hc
      · split
        · exact lossWrite_wf h8 _ _ _ hc
        · exact lossWrite_wf h9 _ _ _ hc

end Sys2Proof.Machine
end

