-- ==== Sys2Proof/Laws/Supervision.lean ====
section
/-! SUPPORT. What raising a kind, telling it gone, and settling an event do, each said once as an equation of states,
and how a settled event follows from it. -/

namespace Sys2Proof.Machine

/-! ## Raising and clearing -/

theorem FaultSet.set_get_self (f : FaultSet) (k : FaultKind) : f.set k (f.get k) = f := by
  cases k <;> rfl

/-- A side with another active fault set. -/
def SideState.withFaults (d : SideState) (f : FaultSet) : SideState :=
  { d with sup := { d.sup with faults := f } }

theorem SideState.withFaults_self (d : SideState) : d.withFaults d.sup.faults = d := rfl

theorem State.setSide_self (s : State) (x : Side) : s.setSide x (s.side x) = s := by
  cases x <;> rfl

theorem raisedIn_active {f : FaultSet} {k : FaultKind} (h : f.get k = .active) : raisedIn f k = f := by
  rw [raisedIn, ← h, FaultSet.set_get_self]

theorem raisedIn_get (f : FaultSet) (j k : FaultKind) :
    (raisedIn f k).get j = if j = k then .active else f.get j :=
  FaultSet.get_set_eq f j k .active

theorem goneIn_get (f : FaultSet) (j k : FaultKind) :
    (goneIn f k).get j =
      if j = k ∧ f.get k = .active then (if latched k then .held else .absent) else f.get j := by
  by_cases h : f.get k = .active
  · simp [goneIn, h, FaultSet.get_set_eq]
  · simp [goneIn, h]

/-- A raise on a side (R137). -/
theorem raise_eq (x : Side) (k : FaultKind) (s : State) :
    raise x k s =
      { s.setSide x ((s.side x).withFaults (raisedIn (s.faults x) k)) with
        handed := s.handed ++
          if (s.faults x).get k = .active then [] else [⟨k, .raised, sideScope x, .plain⟩] } := by
  unfold raise
  split
  · next h => rw [raisedIn_active h, if_pos h]; cases x <;> simp [State.faults, SideState.withFaults]
  · next h =>
    rw [if_neg h]
    cases x <;> rfl

/-- A condition told gone on a side (R138). -/
theorem gone_eq (x : Side) (k : FaultKind) (s : State) :
    gone x k s =
      { s.setSide x ((s.side x).withFaults (goneIn (s.faults x) k)) with
        handed := s.handed ++
          if (s.faults x).get k = .active then [⟨k, .cleared, sideScope x, goneFlag k⟩] else [] } := by
  unfold gone
  split
  · next h => rw [if_pos h, goneIn, if_pos h]; cases x <;> rfl
  · next h => rw [if_neg h, goneIn, if_neg h]; cases x <;> simp [State.faults, SideState.withFaults]

/-- A raise of a kind of scope both or device (R135, R137). -/
theorem raisePart_eq (k : FaultKind) (s : State) :
    raisePart k s =
      { s with
        left := s.left.withFaults (raisedIn (s.faults .left) k),
        right := s.right.withFaults (raisedIn (s.faults .right) k),
        handed := s.handed ++
          if (s.faults .left).get k = .active ∧ (s.faults .right).get k = .active then []
          else [⟨k, .raised, .device, .plain⟩] } := by
  unfold raisePart
  split
  · next h =>
    rw [raisedIn_active h.1, raisedIn_active h.2]
    simp [State.faults, SideState.withFaults]
  · rfl

/-- A condition of scope device told gone, where the kind stands alike in both sets and is not LATCHED (R135, R138). -/
theorem gonePart_eq {k : FaultKind} {s : State} (hk : latched k = false)
    (h : (s.faults .left).get k = (s.faults .right).get k) :
    gonePart k s =
      { s with
        left := s.left.withFaults (goneIn (s.faults .left) k),
        right := s.right.withFaults (goneIn (s.faults .right) k),
        handed := s.handed ++
          if (s.faults .left).get k = .active then [⟨k, .cleared, .device, .plain⟩] else [] } := by
  unfold gonePart goneIn
  rw [← h]
  by_cases ha : (s.faults .left).get k = .active
  · simp only [ha, or_self, if_true, hk]; rfl
  · have hb : ¬s.left.sup.faults.get k = .active := ha
    simp [hb, State.faults, SideState.withFaults]

/-! ## Settling an event (R140, R142, R145, R78) -/

/-- The view state of a side after an event that handed on the transitions given. -/
def settledView (x : Side) (ts : List Transition) (d : SideState) : ViewState :=
  if touched x ts then nextView d.sup else d.sup.view

/-- A side after the event: its view state, and an all-4,096 map where it leaves NORMAL. -/
def settledSide (x : Side) (ts : List Transition) (d : SideState) : SideState :=
  { d with
    sup := { d.sup with view := settledView x ts d },
    gain := if d.sup.view = .normal ∧ settledView x ts d ≠ .normal then ⟨unityGains, d.gain.version + 1⟩
      else d.gain }

theorem setView_eq (x : Side) (v : ViewState) (s : State) :
    setView x v s = s.setSide x
      { s.side x with
        sup := { (s.side x).sup with view := v },
        gain := if (s.side x).sup.view = .normal ∧ v ≠ .normal then ⟨unityGains, (s.side x).gain.version + 1⟩
          else (s.side x).gain } := by
  unfold setView
  split <;> cases x <;> rfl

theorem evaluateView_eq (x : Side) (s : State) :
    evaluateView x s = s.setSide x (settledSide x s.handed (s.side x)) := by
  unfold evaluateView settledSide settledView
  split
  · rw [setView_eq]
  · cases x <;> simp

/-- R140 steps 2 to 4. -/
theorem settle_eq (s : State) :
    settle s =
      { s with
        left := settledSide .left s.handed s.left,
        right := settledSide .right s.handed s.right,
        reports := (formRecords s.handed).foldl
          (storeRecord s.now (settledView .left s.handed s.left) (settledView .right s.handed s.right)) s.reports } := by
  unfold settle
  rw [evaluateView_eq, evaluateView_eq]
  rfl

theorem settle_side (s : State) (x : Side) : (settle s).side x = settledSide x s.handed (s.side x) := by
  rw [settle_eq]; cases x <;> rfl

theorem settle_faults (s : State) (x : Side) : (settle s).faults x = s.faults x := by
  rw [State.faults, settle_side]; rfl

theorem settle_handed (s : State) : (settle s).handed = s.handed := by
  rw [settle_eq]

/-- The records of a settled event. -/
theorem reported_settle {s u : State} (hn : u.now = s.now) (hr : u.reports = s.reports) : Reported s (settle u) := by
  unfold Reported
  rw [settle_eq, hn, hr]
  rfl

/-- The view state of a settled event, where a side that the event did not touch has its set as before. -/
theorem viewFollows_settle {x : Side} {s u : State} (hl : ViewLaw s)
    (hv : (u.side x).sup.view = (s.side x).sup.view)
    (hu : touched x u.handed = false → u.faults x = s.faults x) : ViewFollows x s (settle u) := by
  have hx := hl x
  unfold ViewFollows
  rw [settle_faults, settle_side]
  simp only [settledSide, settledView, nextView]
  rw [hv]
  cases ht : touched x u.handed
  · rw [hu ht]
    cases hc : (s.side x).sup.view <;> simp_all
  · rfl

/-- The published map of a settled event. -/
theorem mapFollows_settle {x : Side} {s u : State} (hv : (u.side x).sup.view = (s.side x).sup.view)
    (hg : (u.side x).gain = (s.side x).gain) : MapFollows x s (settle u) := by
  unfold MapFollows
  rw [settle_side]
  simp only [settledSide, hv, hg]

/-- A transition of a side touches it; one of the part touches both. -/
theorem touched_append (x : Side) (a b : List Transition) : touched x (a ++ b) = (touched x a || touched x b) := by
  simp [touched]

/-! ## Samples -/

@[simp] theorem sampled_nextSample (supply : Nat) (temperature : Int) (h : Health) :
    (sampled supply temperature h).nextSample = after h.nextSample 1000 := by simp only [sampled]
@[simp] theorem sampled_supply (supply : Nat) (temperature : Int) (h : Health) :
    (sampled supply temperature h).supply = some supply := rfl
@[simp] theorem sampled_temperature (supply : Nat) (temperature : Int) (h : Health) :
    (sampled supply temperature h).temperature = some temperature := rfl
@[simp] theorem sampled_thresholds (supply : Nat) (temperature : Int) (h : Health) :
    (sampled supply temperature h).thresholds = h.thresholds := by simp only [sampled]
@[simp] theorem sampled_entered (supply : Nat) (temperature : Int) (h : Health) :
    (sampled supply temperature h).entered = levelsAfter h.thresholds supply temperature h.entered := rfl

end Sys2Proof.Machine
end

