-- ==== Sys2Proof/WellFormed.lean ====
section
/-! DEFINITION. Which commands can arrive: the ranges and the first bytes that the manual gives to what a command
carries. `exec` is total on the others too (log 7, log 22, log 26). -/

namespace Sys2Proof

/-- R173: the length field of a frame that passes the framing is at most 248. -/
def payloadFits (payload : List Byte) : Bool :=
  payload.length ≤ 248

/-- R170: the first byte of a poll window is neither 0xA5 (request) nor 0x5A (collect). -/
def pollBytes (bytes : List Byte) : Bool :=
  match bytes with
  | [] => true
  | b :: _ => b != 0xA5 && b != 0x5A

/-- R163: readings lie in 0 to 5,000 mV and −50 to 200 °C. -/
def readingInRange (supply : Nat) (temperature : Int) : Bool :=
  supply ≤ 5000 && -50 ≤ temperature && temperature ≤ 200

/-- A command that can arrive. -/
def Instr.wellFormed : Instr → Bool
  | .powerOn => true
  | .powerLoss => true
  | .initCompletion _ => true
  | .vsyncExpiry _ => true
  | .camTriggerExpiry _ => true
  | .frameStartArrival _ _ _ _ => true
  | .lineArrival _ _ => true
  | .frameEndArrival _ => true
  | .linkLostTimerExpiry _ => true
  | .exposureCompletionTaken _ => true
  | .glareCompletionTaken _ => true
  | .dispatch _ => true
  | .ackArrival _ answer _ => answer != 1
  | .nackArrival _ answer _ => answer != 0
  | .transactionTimerExpiry _ => true
  | .echoArrival _ _ _ _ => true
  | .echoTimerExpiry _ => true
  | .echoIdleTimerExpiry _ => true
  | .startTimerExpiry _ => true
  | .freshnessTimerExpiry _ => true
  | .inspectDurationExpiry _ => true
  | .wakeTimerExpiry => true
  | .wakeLineRisingEdge => true
  | .sample supply temperature => readingInRange supply temperature
  | .saveProfilePhaseExpiry => true
  | .storeOperationCompletion => true
  | .deferredReset => true
  | .enterStandby => true
  | .chipSelectFalling => true
  | .collectWindow _ => true
  | .pollWindow bytes => pollBytes bytes
  | .requestWindowClose _ => true
  | .status _ p => payloadFits p
  | .identify _ p => payloadFits p
  | .startView _ p => payloadFits p
  | .stopView _ p => payloadFits p
  | .setTiming _ p => payloadFits p
  | .vehicleState _ p => payloadFits p
  | .adjustView _ p => payloadFits p
  | .inspect _ p => payloadFits p
  | .endInspect _ p => payloadFits p
  | .setGlare _ p => payloadFits p
  | .setTone _ p => payloadFits p
  | .setExposureLimits _ p => payloadFits p
  | .readGlare _ p => payloadFits p
  | .fetchReports _ p => payloadFits p
  | .readHealth _ p => payloadFits p
  | .readCounters _ p => payloadFits p
  | .restoreView _ p => payloadFits p
  | .storeUnlock _ p => payloadFits p
  | .storeRead _ p => payloadFits p
  | .storeWrite _ p => payloadFits p
  | .storeErase _ p => payloadFits p
  | .storeProtect _ p => payloadFits p
  | .storeLockFactory _ p => payloadFits p
  | .loadProfile _ p => payloadFits p
  | .saveProfile _ p => payloadFits p
  | .standby _ p => payloadFits p
  | .wake _ p => payloadFits p
  | .reset _ p => payloadFits p
  | .echoRecordByteArrival _ _ => true

end Sys2Proof
end

