-- ==== Sys2Proof/Tests/Slice0.lean ====
section
/-! SUPPORT. Tests on fixed values, their expected results taken from the worked examples and tables of the spec or
worked out by hand from its rules; and for every obligation with hypotheses a concrete state and operands that meet
them, one for each clause. -/

namespace Sys2Proof.Tests

open Sys2Proof.Machine

/-! ## Small states -/

/-- ACTIVE with both sides OFF. -/
def base : State :=
  { State.reset with link := { State.reset.link with part := .active, initTimer := none } }

/-- A side in NORMAL with its triggers armed and STREAM_ON in flight. -/
def running : SideState :=
  { resetSide with
    vsync := ⟨true, 20000, 16667⟩,
    cam := ⟨true, 14334, 16667⟩,
    port := ⟨none, none, none, 0, some 33334⟩,
    channel := ⟨[], some ⟨.streamOn .triggered 16667, 1, false⟩, some 2000, 1⟩,
    sup := { resetSide.sup with view := .normal, startTimer := some 2000000 } }

/-- ACTIVE with side L running and side R OFF. -/
def live : State :=
  { base with left := running }

/-- `live` with its running side changed. -/
def liveWith (f : SideState → SideState) : State :=
  { live with left := f running }

/-- `base` with its link changed. -/
def linkWith (f : Link → Link) : State :=
  { base with link := f base.link }

/-- `base` with its store changed. -/
def storeWith (f : Store → Store) : State :=
  { base with store := f base.store }

/-- `liveWith` for a change of the set of side L alone. -/
def faultsWith (k : FaultKind) (m : Member) (v : ViewState) : State :=
  liveWith fun d => { d with sup := { d.sup with faults := d.sup.faults.set k m, view := v } }

/-- A frame in progress. -/
def someFrame : FrameInProgress := ⟨1000, 7, 20, 1125, 1080, true, 5⟩

/-- `live` with a frame in progress. -/
def framed (f : FrameInProgress) : State :=
  liveWith fun d => { d with port := { d.port with frame := some f } }

/-- A completed set in which every tile has the same record. -/
def evenSet (mean peak hot exposure : Nat) : Completed :=
  ⟨List.replicate 192 ⟨2700 * mean, peak, hot, mean⟩, exposure, 300000⟩

/-- What a command answers, if it is a next state. -/
def after? (c : Instr) (s : State) : Option State :=
  match exec c s with
  | .next t => some t
  | _ => none

/-! ## Meeting the laws and the hypotheses of a request -/

theorem answerable {k : RequestKind} {p : List Byte} {s : State}
    (h : (s.powered && !(closingWindow s).spannedReset && decide (p.length ≤ 248) && lengthRight k p &&
      inRequestSet s k) = true) : Answerable k p s := by
  simp only [Bool.and_eq_true, Bool.not_eq_true', decide_eq_true_eq] at h
  obtain ⟨⟨⟨⟨h1, h2⟩, h3⟩, h4⟩, h5⟩ := h
  exact ⟨h1, h2, h3, h4, h5⟩

theorem mem_allKinds (k : FaultKind) : k ∈ allKinds := by
  cases k <;> decide

/-- The fault law of a side as a check. -/
def setOk (f : FaultSet) : Bool :=
  (allKinds.all fun k => f.get k != .held || (latched k && k != .calibrationDamaged)) &&
    f.get .frameMalformed == .absent

theorem faultLaw_of {s : State} (hl : setOk s.left.sup.faults = true) (hr : setOk s.right.sup.faults = true)
    (h : (allKinds.all fun k =>
      kindScope k == .side || s.left.sup.faults.get k == s.right.sup.faults.get k) = true) : FaultLaw s := by
  have side : ∀ f : FaultSet, setOk f = true →
      (∀ k, f.get k = .held → latched k = true ∧ k ≠ .calibrationDamaged) ∧ f.get .frameMalformed = .absent := by
    intro f hf
    simp only [setOk, Bool.and_eq_true, List.all_eq_true, beq_iff_eq] at hf
    refine ⟨fun k hk => ?_, hf.2⟩
    have := hf.1 k (mem_allKinds k)
    rw [hk] at this
    simpa using this
  refine ⟨fun k hk => ?_, fun x => ?_⟩
  · have := List.all_eq_true.1 h k (mem_allKinds k)
    show s.left.sup.faults.get k = s.right.sup.faults.get k
    simpa [hk] using this
  · cases x
    · exact side _ hl
    · exact side _ hr

/-- The view law of a side as a check. -/
def viewOk (d : SideState) : Bool :=
  match d.sup.view with
  | .off => true
  | .starting => !d.sup.faults.holdsClass .blank
  | v => v == evaluated d.sup.faults

theorem viewLaw_of {s : State} (hl : viewOk s.left = true) (hr : viewOk s.right = true) : ViewLaw s := by
  have one : ∀ d : SideState, viewOk d = true →
      match d.sup.view with
      | .off => True
      | .starting => d.sup.faults.holdsClass .blank = false
      | v => v = evaluated d.sup.faults := by
    intro d h
    unfold viewOk at h
    split <;> simp_all
  intro x
  cases x
  · exact one _ hl
  · exact one _ hr

/-- The geometry of a side as a check. -/
def geometryOk (x : Side) (g : Geometry) : Bool :=
  validWindow g.bounds && validWindow g.curb && validWindow g.axle && validWindow g.maneuver &&
    ([g.baseMain, g.baseWide, g.mainInForce, g.wideInForce, g.mainShown, g.wideShown].all fun w =>
      validWindow w && inside g.bounds w) &&
    g.mainInForce == resolveMain x g && g.wideInForce == resolveWide g

theorem windowLaw_of {s : State} (hl : geometryOk .left s.left.geometry = true)
    (hr : geometryOk .right s.right.geometry = true) : WindowLaw s := by
  have one : ∀ x g, geometryOk x g = true → geometrySound x g := by
    intro x g h
    simp only [geometryOk, Bool.and_eq_true, List.all_eq_true, beq_iff_eq] at h
    obtain ⟨⟨⟨⟨⟨⟨a, b⟩, c⟩, d⟩, e⟩, f⟩, g⟩ := h
    exact ⟨a, b, c, d, e, f, g⟩
  intro x
  cases x
  · exact one _ _ hl
  · exact one _ _ hr

theorem live_faultLaw : FaultLaw live := faultLaw_of (by decide) (by decide) (by decide)
theorem live_viewLaw : ViewLaw live := viewLaw_of (by decide) (by decide)
theorem live_windowLaw : WindowLaw live := windowLaw_of (by decide) (by decide)

theorem live_settingsLaw : SettingsLaw live := by
  refine ⟨fun x => ?_, by unfold thresholdsInRange; decide, by decide, by decide, by decide⟩
  cases x <;>
    exact ⟨by decide, by decide, by decide, by decide, by decide, by decide, by decide, by unfold toneTable; decide,
      by unfold glareInRange; decide, by unfold limitsInRange; decide, by decide, by decide, by decide⟩

theorem live_channelLaw : ChannelLaw live := by
  intro x; cases x <;> decide

theorem live_gainLaw : GainLaw live := by
  intro x
  cases x <;>
    exact ⟨List.length_replicate, fun g h => by rw [List.eq_of_mem_replicate h]; decide, fun _ => rfl,
      by unfold glareInRange; decide⟩

theorem live_glareLaw : GlareLaw live := by
  intro x; cases x <;> decide

theorem live_ringLaw : RingLaw live := by
  intro x
  refine ⟨fun st h => ?_, ?_⟩
  · cases x <;> cases st <;> first | exact absurd rfl h | decide
  · cases x <;> decide

theorem live_historyLaw : HistoryLaw live := by
  intro x
  cases x <;> exact ⟨by decide, fun i e h => by simp [live, base, running, resetSide, resetDisplay, State.side, State.reset] at h⟩

theorem live_reportLaw : ReportLaw live :=
  ⟨by decide, by decide, fun i r h => by simp [live, base, State.reset] at h⟩

theorem live_storeLaw : StoreLaw live :=
  ⟨rfl, by decide, by decide, fun o h => by simp [live, base, State.reset] at h, by decide⟩

theorem live_partLaw : PartLaw live := by
  refine ⟨fun x => ?_, by decide, by decide, by decide, by decide⟩
  cases x
  · exact ⟨by decide, fun h => absurd h (by decide), fun _ => rfl, fun _ => rfl, by decide⟩
  · exact ⟨by decide, fun _ => by unfold idleSide; decide, by decide, by decide, by decide⟩

/-- A step of `live`: no event is due, so a microsecond passes. -/
theorem live_step : step live = .next (tick live) := by rfl

theorem due_self (t : PartTime) : due (some t) t = true := by
  simp [due, later, duration]

theorem trigger_due_self (t : PartTime) (p : Nat) : Trigger.due ⟨true, t, p⟩ t = true := by
  simp [Trigger.due, later, duration]

/-! ## Witnesses: the hypotheses of the obligations are met, clause by clause -/

theorem witness_StepTakesTheFrontCommand :
    ({ live with pending := [.enterStandby] } : State).pending = .enterStandby :: [] := rfl

theorem witness_WithoutCommandOrPower :
    (live.pending = [] ∧ dueEvents live = []) ∧
      dueEvents { State.reset with now := 5000, health := { State.reset.health with nextSample := 6000 } } =
        [.initCompletion false] ∧
      dueEvents { State.reset with now := 1000 } = [ownSample State.reset] ∧
      ({ live with powered := false } : State).powered = false ∧ Instr.enterStandby ≠ .powerOn :=
  ⟨⟨rfl, rfl⟩, rfl, rfl, rfl, by decide⟩

theorem witness_StepsKeepTheLaws :
    (StoreLaw live ∧ ReportLaw live ∧ FaultLaw live ∧ ViewLaw live ∧ GainLaw live ∧ GlareLaw live ∧ WindowLaw live ∧
      SettingsLaw live ∧ RingLaw live ∧ HistoryLaw live ∧ ChannelLaw live ∧ PartLaw live ∧ SampleLaw live) ∧
      ∃ t, step live = .next t :=
  ⟨⟨live_storeLaw, live_reportLaw, live_faultLaw, live_viewLaw, live_gainLaw, live_glareLaw, live_windowLaw,
    live_settingsLaw, live_ringLaw, live_historyLaw, live_channelLaw, live_partLaw, fun _ => by decide⟩, _, live_step⟩

theorem witness_NoStepChangesAProtectedBlock :
    StoreLaw live ∧ (∃ t, step live = .next t) ∧ 7 ≤ 63 ∧ 127 < 128 ∧ blockProtected live.store 7 = true :=
  ⟨live_storeLaw, ⟨_, live_step⟩, by decide, by decide, rfl⟩

theorem witness_WindowsOpenAndClose :
    base.powered = true ∧
      (linkWith fun l => { l with window := some ⟨4, some [1], false⟩ }).link.window = some ⟨4, some [1], false⟩ ∧
      (linkWith fun l => { l with window := some ⟨4, none, true⟩ }).link.window = some ⟨4, none, true⟩ :=
  ⟨rfl, rfl, rfl⟩

theorem witness_RequestFrameBytesReadBack :
    (List.replicate 248 (0 : Byte)).length ≤ 248 ∧ kindOfCode 0x01 = some .status ∧ kindOfCode 0x1C = some .reset :=
  ⟨Nat.le_of_eq List.length_replicate, rfl, rfl⟩

set_option maxRecDepth 100000 in
theorem witness_RequestWindowWithAGoodFrame :
    readFrame (requestBytes 0x1B 7 []) = .good 0x1B 7 [] ∧ kindOfCode 0x1B = some .wake ∧ base.powered = true ∧
      (closingWindow base).spannedReset = false ∧ RequestKind.wake ≠ .reset := by decide +kernel

set_option maxRecDepth 100000 in
theorem witness_BadFramesAndUnknownKinds :
    (base.powered = true ∧ (closingWindow base).spannedReset = false) ∧
      readFrame [] = .bad 0 0 ∧ readFrame [1, 2] = .bad 1 2 ∧ readFrame [1, 2, 249] = .bad 1 2 ∧
      readFrame [1, 2, 0, 0, 0] = .bad 1 2 ∧
      (readFrame (requestBytes 0x1D 7 []) = .good 0x1D 7 [] ∧ kindOfCode 0x1D = none) ∧
      readFrame (requestBytes 0x00 7 []) = .good 0 7 [] ∧ kindOfCode 0 = none := by decide +kernel

theorem witness_RequestsOutsideTheirSetOrLength :
    (base.powered = true ∧ (closingWindow base).spannedReset = false) ∧
      lengthRight .startView [] = false ∧
      (State.reset.powered = true ∧ (closingWindow State.reset).spannedReset = false ∧
        lengthRight .identify [] = true ∧ inRequestSet State.reset .identify = false) := by decide

theorem witness_ReadRequests :
    Answerable .status [] State.reset ∧ Answerable .identify [] base ∧
      (Answerable .readGlare [2] base ∧ 2 ≤ (2 : Byte).toNat) ∧
      (Answerable .readGlare [1] base ∧ (1 : Byte).toNat = sideCode .right) ∧
      Answerable .fetchReports [9] base ∧ Answerable .readHealth [] base ∧
      (Answerable .readCounters [3, 0] base ∧ 2 < (3 : Byte).toNat) ∧
      (Answerable .readCounters [0, 2] base ∧ 1 < (2 : Byte).toNat) ∧
      Answerable .readCounters [2, 1] base ∧ (2 : Byte).toNat ≤ 2 ∧ (1 : Byte).toNat ≤ 1 :=
  ⟨answerable (by decide), answerable (by decide), ⟨answerable (by decide), by decide⟩,
    ⟨answerable (by decide), by decide⟩, answerable (by decide), answerable (by decide),
    ⟨answerable (by decide), by decide⟩, ⟨answerable (by decide), by decide⟩, answerable (by decide), by decide,
    by decide⟩

/-- A store with an operation in flight. -/
def busy (w : StoreWork) : State :=
  storeWith fun st => { st with operation := some ⟨w, 0⟩ }

theorem busy_storeLaw {w : StoreWork} (h : workAllowed (busy w).store w) : StoreLaw (busy w) :=
  ⟨rfl, (by decide : (8 : Nat) ≤ 64), fun _ => rfl, fun o ho => by cases ho; exact h, fun _ h => by cases h⟩

theorem witness_PowerLoss :
    (live.powered = true ∧ StoreLaw live ∧ live.store.operation = none) ∧
      ((busy .lock).powered = true ∧ StoreLaw (busy .lock) ∧ (busy .lock).store.operation = some ⟨.lock, 0⟩) ∧
      StoreLaw (busy (.erase 63)) ∧
      StoreLaw (storeWith fun st => { st with factoryLock := true }) :=
  ⟨⟨rfl, live_storeLaw, rfl⟩, ⟨rfl, busy_storeLaw rfl, rfl⟩, busy_storeLaw ⟨by decide, rfl⟩,
    rfl, by decide, by decide, fun o h => by simp [storeWith, base, State.reset] at h, by decide⟩

/-- The part at the end of INIT, with cells in its store. -/
def atInit (cells : List Host.Cell) : State :=
  { State.reset with now := 5000, store := { State.reset.store with cells := cells } }

theorem geometry_at_reset :
    geometryOk .left State.reset.left.geometry = true ∧ geometryOk .right State.reset.right.geometry = true := by decide

theorem witness_InitCompletion (cells : List Host.Cell) :
    (atInit cells).powered = true ∧ due (atInit cells).link.initTimer (atInit cells).now = true ∧
      WindowLaw (atInit cells) ∧ (∀ x, ((atInit cells).side x).sup.view = .off) ∧
      ∀ x, ((atInit cells).side x).channel = ⟨[], none, none, 0⟩ := by
  refine ⟨rfl, due_self 5000, windowLaw_of geometry_at_reset.1 geometry_at_reset.2, fun x => ?_, fun x => ?_⟩ <;> cases x <;> rfl

set_option maxRecDepth 1000000 in
/-- The CRC of a calibration of 1,022 bytes of 0xFF, and so a store in which it checks and one in which it fails. -/
theorem witness_InitCompletion_calibration :
    calibrationGood (calibrationCells [(1022, 0x1E), (1023, 0xE8)]) = true ∧
      calibrationGood (calibrationCells []) = false := by
  decide +kernel

set_option maxRecDepth 1000000 in
theorem witness_InitCompletion_profile :
    profileDamaged 0 (profileBytes 0 State.reset) = false ∧ profileDamaged 0 (profileCells 0 []) = true := by
  decide +kernel

theorem witness_ResetRequest :
    (Answerable .reset [] base ∧ base.store.operation = none) ∧
      (Answerable .reset [] (busy .lock) ∧ (busy .lock).store.operation.isSome = true) ∧
      (linkWith fun l => { l with resetPending := some 7 }).link.resetPending = some 7 ∧
      base.link.resetPending = none :=
  ⟨⟨answerable (by decide), rfl⟩, ⟨answerable (by decide), rfl⟩, rfl, rfl⟩

theorem witness_Standby :
    Answerable .standby [] live ∧ (live.side .left).sup.view ≠ .off ∧ (live.side .right).sup.view = .off :=
  ⟨answerable (by decide), by decide, rfl⟩

/-- STANDBY with the wake timer run out and a pending wake. -/
def waking (w : Wake) : State :=
  linkWith fun l => { l with part := .standby, wakeTimer := some 0, pendingWake := some w }

theorem witness_WakeAndWakeTimer :
    Answerable .wake [] base ∧ Answerable .wake [] (waking .line) ∧
      ((waking .line).powered = true ∧ due (waking .line).link.wakeTimer (waking .line).now = true ∧
        (waking .line).link.pendingWake = some .line ∧ ∀ x, ((waking .line).side x).sup.view = .off) ∧
      (waking .request).link.pendingWake ≠ some .line :=
  ⟨answerable (by decide), answerable (by decide), ⟨rfl, rfl, rfl, fun x => by cases x <;> rfl⟩, by decide⟩

theorem witness_WakeLineAndEnterStandby :
    (State.reset.powered = true ∧ State.reset.link.part = .init) ∧
      (linkWith fun l => { l with resetPending := some 7 }).link.resetPending.isSome = true ∧
      (base.link.resetPending = none ∧ base.link.part = .active) ∧
      (waking .line).link.part = .standby ∧
      ((linkWith fun l => { l with part := .quiescing }).link.part = .quiescing ∧
        (∀ x, ((linkWith fun l => { l with part := .quiescing }).side x).channel.inFlight = none ∧
          ((linkWith fun l => { l with part := .quiescing }).side x).channel.queue = []) ∧
        (linkWith fun l => { l with part := .quiescing }).store.operation = none) ∧
      base.link.part ≠ .quiescing ∧ (busy .lock).store.operation.isSome = true ∧
      ∃ x, (live.side x).channel.inFlight.isSome = true :=
  ⟨⟨rfl, rfl⟩, rfl, ⟨rfl, rfl⟩, rfl, ⟨rfl, fun x => by cases x <;> exact ⟨rfl, rfl⟩, rfl⟩, by decide, rfl, .left, rfl⟩

/-- `live` at an expiry of its camera trigger, with a mode, a frame in progress and a hold. -/
def triggering (m : SyncMode) (f : Option FrameInProgress) (h : Option PartTime) : State :=
  { live with
    now := 14334, timing := { live.timing with modeLeft := m },
    left := { running with held := h, port := { running.port with frame := f } } }

set_option maxRecDepth 100000 in
theorem witness_CameraTrigger (m : SyncMode) (f : Option FrameInProgress) (h : Option PartTime) :
    (triggering m f h).powered = true ∧
      ((triggering m f h).side .left).cam.due (triggering m f h).now = true ∧ ViewLaw (triggering m f h) ∧
      (triggering m f h).syncMode .left = m ∧ ((triggering m f h).side .left).port.frame = f ∧
      ((triggering m f h).side .left).held = h :=
  ⟨rfl, trigger_due_self 14334 _, viewLaw_of (by rfl) (by rfl), rfl, rfl, rfl⟩

theorem witness_DiscardedArrivals :
    live.powered = true ∧ (live.side .right).sup.view = .off ∧
      ((live.side .left).sup.view ≠ .off ∧ (live.side .left).port.frame = none) ∧
      (∀ f, (live.side .right).channel.inFlight = some f → f.attempt ≠ 1) ∧
      (∀ f, (live.side .left).channel.inFlight = some f → f.attempt ≠ 2) ∧ (1 : Byte) ≠ 0 ∧ (0 : Byte) ≠ 1 :=
  ⟨rfl, rfl, ⟨by decide, rfl⟩, fun f h => (by cases h), fun f h => (by cases h; decide), by decide, by decide⟩

/-- A slot with a frame. -/
def slotOf (st : SlotState) : Slot := ⟨st, some ⟨7, 1000, 20, 0, 1⟩, []⟩

theorem witness_FrameStart :
    live.powered = true ∧ (live.side .left).sup.view ≠ .off ∧ FaultLaw live ∧ ViewLaw live ∧
      live.syncMode .left = .triggered :=
  ⟨rfl, by decide, live_faultLaw, live_viewLaw, rfl⟩

/-- A grid time later than the capture time by the greatest duration that counts as later, and one that is not. -/
theorem witness_SignedDifference :
    0 < 16667 ∧ (1 ≤ ((0 : PartTime) - 0x800000000001).toNat ∧
        ((0 : PartTime) - 0x800000000001).toNat ≤ 2 ^ 47 - 1) ∧
      ¬((0 : PartTime) - 0x800000000000).toNat ≤ 2 ^ 47 - 1 := by decide

theorem witness_Follower (m : SyncMode) :
    (triggering m none none).powered = true ∧ ((triggering m none none).side .left).sup.view ≠ .off ∧
      (triggering .follow none none).syncMode .left = .follow ∧ 0 < (triggering m none none).timing.framePeriod ∧
      FaultLaw (triggering m none none) :=
  ⟨rfl, (by decide : ViewState.normal ≠ .off), rfl, (by decide : 0 < 16667),
    faultLaw_of (by rfl) (by rfl) (by rfl)⟩

theorem witness_Lines :
    (framed { someFrame with lineCount := 1079 }).powered = true ∧
      ((framed { someFrame with lineCount := 1079 }).side .left).sup.view ≠ .off ∧
      ((framed { someFrame with lineCount := 1079 }).side .left).port.frame =
        some { someFrame with lineCount := 1079 } ∧
      (List.replicate 3840 (0 : Byte)).length = 3840 ∧ ([] : List Byte).length ≠ 3840 ∧
      ((framed someFrame).side .left).port.frame = some someFrame ∧ 1080 ≤ someFrame.lineCount ∧
      ((beginCollecting 1 300000).tiles.length = 192 ∧
        ({ beginCollecting 1 300000 with evenLine := some [] } : Collecting).evenLine = some [] ∧
        (beginCollecting 1 300000).tiles[191]? = some ⟨0, 0, 0⟩) :=
  ⟨rfl, by decide, rfl, List.length_replicate, by decide, rfl, by decide, List.length_replicate, rfl, rfl⟩

/-- Side L at an odd line whose even line is held, with a latched set and a slot that is written. -/
def developing : State :=
  liveWith fun d =>
    { d with
      port := { d.port with frame := some { someFrame with lineCount := 1079 } },
      stats := { d.stats with collecting := some { beginCollecting 1 300000 with evenLine := some [1, 2] } },
      tone := { d.tone with latched := some ⟨d.gain, 256, defaultToneTable⟩ },
      ring := ⟨slotOf .writing, freeSlot, freeSlot⟩ }

theorem witness_Lines_clauses :
    ((developing.side .left).port.frame = some { someFrame with lineCount := 1079 } ∧ 1079 < 1080 ∧ 1079 % 2 = 1 ∧
        (developing.side .left).tone.latched.isSome = true ∧
        (developing.side .left).stats.collecting.bind Collecting.evenLine = some [1, 2]) ∧
      (running.tone.latched = none ∧ 1078 % 2 = 0) ∧
      (([0x12, 0xF3] : List Byte)[2 * 0]? = some 0x12 ∧ ([0x12, 0xF3] : List Byte)[2 * 0 + 1]? = some 0xF3 ∧
        (lineCodes [0x12, 0xF3])[0]? = some 0x312) ∧
      (quadsOf [1, 2, 3] [4, 5, 6])[0]? = some ⟨1, 2, 4, 5⟩ :=
  ⟨⟨rfl, by decide, by decide, rfl, rfl⟩, ⟨rfl, by decide⟩, ⟨rfl, rfl, rfl⟩, rfl⟩

/-- A side at the end of a frame, with previous values, a frozen run, a hold and a collecting set. -/
def ending (f : FrameInProgress) (p : Option Word16) (run : Nat) (h : Option PartTime) (c : Option Collecting) : State :=
  { liveWith fun d =>
      { d with held := h, port := { d.port with frame := some f, prevNumber := p, frozenRun := run },
               stats := { d.stats with collecting := c } } with now := 5000 }

set_option maxRecDepth 100000 in
theorem witness_FrameEnd (f : FrameInProgress) (p : Option Word16) (run : Nat) (h : Option PartTime)
    (c : Option Collecting) :
    (ending f p run h c).powered = true ∧ ((ending f p run h c).side .left).sup.view ≠ .off ∧
      ((ending f p run h c).side .left).port.frame = some f ∧ ViewLaw (ending f p run h c) ∧
      FaultLaw (ending f p run h c) ∧ ((ending f p run h c).side .left).stats.collecting = c ∧
      ((ending f p run h c).side .left).held = h ∧ ((ending f p run h c).side .left).port.prevNumber = p ∧
      ((ending f p run h c).side .left).port.frozenRun = run :=
  ⟨rfl, (by decide : ViewState.normal ≠ .off), rfl, viewLaw_of (by rfl) (by rfl),
    faultLaw_of (by rfl) (by rfl) (by rfl), rfl, rfl, rfl, rfl⟩

/-- Holds of 2,000 and 2,001 µs at part time 5,000, and frames on both edges of the shape check. -/
theorem witness_FrameEnd_clauses :
    duration 5000 3000 = 2000 ∧ duration 5000 2999 = 2001 ∧
      (someFrame.lineCount = 1080 ∧ someFrame.shapeGood = true) ∧
      (shapeCheck { someFrame with length := 1117 } = true ∧ shapeCheck { someFrame with length := 1133 } = true) ∧
      (shapeCheck { someFrame with length := 1116 } = false ∧ shapeCheck { someFrame with length := 1134 } = false ∧
        shapeCheck { someFrame with lineCount := 1079 } = false ∧
        shapeCheck { someFrame with shapeGood := false } = false) := by decide

set_option maxRecDepth 100000 in
theorem witness_LinkLost (f : Option FrameInProgress) (h : Option PartTime) :
    let s := { liveWith fun d => { d with held := h, port := { d.port with frame := f, linkLost := some 5000 } } with
      now := 5000 }
    s.powered = true ∧ due (s.side .left).port.linkLost s.now = true ∧ ViewLaw s ∧ (s.side .left).port.frame = f ∧
      (s.side .left).held = h :=
  ⟨rfl, due_self 5000, viewLaw_of (by rfl) (by rfl), rfl, rfl⟩

/-- A side with a completion waiting at both takers, a night state and a run. -/
def metering (c : Completed) (n : NightState) (run : Nat) : State :=
  liveWith fun d =>
    { d with exposure := { d.exposure with waiting := [c], night := n, nightRun := run },
             glare := { d.glare with waiting := [c] } }

theorem witness_ExposureCompletion (c : Completed) (n : NightState) (run : Nat) :
    (metering c n run).powered = true ∧ ((metering c n run).side .left).exposure.waiting = c :: [] ∧
      ((metering c n run).side .left).exposure.night = n ∧ ((metering c n run).side .left).exposure.nightRun = run :=
  ⟨rfl, rfl, rfl, rfl⟩

/-- The run of 29 turns DAY at E_on = 400 and NIGHT at E_off = 200; one off either does not. -/
theorem witness_ExposureCompletion_clauses :
    (running.exposure.limits.eOn ≤ 400 ∧ ¬running.exposure.limits.eOn ≤ 399) ∧
      (200 ≤ running.exposure.limits.eOff ∧ ¬201 ≤ running.exposure.limits.eOff) ∧ 29 + 1 = 30 := by decide

theorem witness_GlareCompletion (c : Completed) (n : NightState) :
    (metering c n 0).powered = true ∧ GlareLaw (metering c n 0) ∧
      ((metering c n 0).side .left).glare.waiting = c :: [] ∧
      ((metering c n 0).side .left).exposure.night = n ∧ ((metering c n 0).side .left).sup.view = .normal ∧
      ((metering c n 0).side .left).gain.gains.length = 192 ∧
      ((faultsWith .displayRepeat .active .degraded).side .left).sup.view ≠ .normal :=
  ⟨rfl, fun x => by
      cases x <;> exact ⟨Nat.zero_le _, List.nodup_nil, fun e h => (by cases h), Nat.zero_le _, fun _ => rfl⟩,
    rfl, rfl, rfl, List.length_replicate, by decide⟩

/-- Two CONFIRMED entries on one box. -/
def twoEntries : List GlareEntry :=
  [⟨41, .confirmed, 3, 0, ⟨7, 3, 8, 5⟩, 400000, .none, 3⟩, ⟨42, .confirmed, 3, 0, ⟨0, 0, 15, 11⟩, 500000, .none, 3⟩]

theorem witness_GrantedTiles :
    ((twoEntries.map GlareEntry.ident).Nodup ∧ ∀ e ∈ twoEntries, e.grant = .none) ∧
      twoEntries.reverse = [] ++ ⟨42, .confirmed, 3, 0, ⟨0, 0, 15, 11⟩, 500000, .none, 3⟩ :: twoEntries.take 1 := by
  decide

theorem witness_EntriesMove :
    (∃ e : GlareEntry, e.state = .candidate ∧ e.seen ≤ 2 ∧ e.seen = 2) ∧
      (∃ e : GlareEntry, e.state = .confirmed) ∧
      ∃ e : GlareEntry, e.state = .fading ∧ e.missed = 5 :=
  ⟨⟨⟨1, .candidate, 2, 0, ⟨0, 0, 0, 0⟩, 5, .none, 0⟩, rfl, by decide, rfl⟩,
    ⟨⟨1, .confirmed, 3, 0, ⟨0, 0, 0, 0⟩, 5, .none, 0⟩, rfl⟩,
    ⟨1, .fading, 3, 5, ⟨0, 0, 0, 0⟩, 5, .none, 0⟩, rfl, rfl⟩

/-- A table that is full, one with room and the counter at 255, and regions taken, untaken and not overlapped. -/
theorem witness_EntriesMove_clauses :
    let r : Region := ⟨⟨3, 4, 3, 6⟩, 330000, [67, 83, 99], 67, none⟩
    let e : GlareEntry := ⟨1, .confirmed, 3, 0, ⟨0, 0, 0, 0⟩, 5, .none, 0⟩
    (∀ i ∈ r.tiles, i < 192) ∧ bestRegion ⟨4, 5, 5, 5⟩ [r] = some r ∧ bestRegion ⟨9, 0, 9, 0⟩ [r] = none ∧
      ({ r with matched := some 7 } : Region).matched.isSome = true ∧ r.matched = none ∧
      12 ≤ (⟨List.replicate 12 e, 255, [], 0⟩ : Creation).table.length ∧
      ((⟨List.replicate 11 e, 255, [], 0⟩ : Creation).table.length < 12 ∧ 255 ≤ 255) := by decide

theorem witness_TransactionsAreAdmitted :
    [Transaction.streamOff, .setExposure 1, .adjustLength 2].Pairwise (fun a b => sameKind a b = false) ∧
      sameKind (.setExposure 9) (.setExposure 1) = true ∧
      (∀ v ∈ [Transaction.streamOff, .adjustLength 2], sameKind (.setExposure 9) v = false) ∧
      [Transaction.streamOff].filter (fun v => v != .streamOff) = [] := by decide

/-- A channel with a queue and perhaps a transaction in flight, its timer due. -/
def sending (q : List Transaction) (f : Option Flight) : State :=
  { liveWith fun d => { d with channel := ⟨q, f, f.map fun _ => 5000, 1⟩ } with now := 5000 }

theorem witness_Dispatch (t : Transaction) (f : Flight) :
    ((sending [t] none).powered = true ∧ ((sending [t] none).side .left).channel.inFlight = none ∧
      ((sending [t] none).side .left).channel.queue = t :: []) ∧
      ((sending [] (some f)).side .left).channel.inFlight.isSome = true ∧
      (((sending [] none).side .left).channel.inFlight = none ∧
        ((sending [] none).side .left).channel.queue = []) ∧
      admitQueue (.setExposure 9) ((sending [.streamOff] none).side .left).channel.queue =
        .streamOff :: [.setExposure 9] :=
  ⟨⟨rfl, rfl, rfl⟩, rfl, ⟨rfl, rfl⟩, rfl⟩

set_option maxRecDepth 100000 in
theorem witness_Acknowledgement (q : List Transaction) (f : Flight) :
    (sending q (some f)).powered = true ∧ ((sending q (some f)).side .left).channel.inFlight = some f ∧
      ((sending q (some f)).side .left).channel.queue = q ∧
      due ((sending q (some f)).side .left).channel.timer (sending q (some f)).now = true ∧
      ViewLaw (sending q (some f)) :=
  ⟨rfl, rfl, rfl, due_self 5000, viewLaw_of (by rfl) (by rfl)⟩

theorem witness_Acknowledgement_clauses :
    (∃ f : Flight, f.retried = false ∧ f.attempt = 1) ∧ ∃ f : Flight, f.retried = true :=
  ⟨⟨⟨.streamOff, 1, false⟩, rfl, rfl⟩, ⟨.streamOff, 2, true⟩, rfl⟩

/-- `live` at a VSYNC, with a ring, a history and a view state. -/
def showing (r : Ring) (h : List Shown) (v : ViewState) (begun : Bool) : State :=
  { liveWith fun d =>
      { d with ring := r, display := { d.display with history := h, begun := begun },
               sup := { d.sup with view := v } } with now := 20000 }

set_option maxRecDepth 100000 in
theorem witness_Vsync (r : Ring) (h : List Shown) (hh : h.length ≤ 8) (begun : Bool) :
    (showing r h .normal begun).powered = true ∧
      ((showing r h .normal begun).side .left).vsync.due (showing r h .normal begun).now = true ∧
      ((showing r h .normal begun).side .left).sup.view ≠ .off ∧ ViewLaw (showing r h .normal begun) ∧
      ViewLaw (showing r h .starting begun) ∧
      ((showing r h .normal begun).side .left).display.history.length ≤ 8 :=
  ⟨rfl, trigger_due_self 20000 _, (by decide : ViewState.normal ≠ .off), viewLaw_of (by rfl) (by rfl), viewLaw_of (by rfl) (by rfl),
    hh⟩

theorem witness_Vsync_clauses :
    (Ring.outcome ⟨slotOf .ready, freeSlot, freeSlot⟩ = .fresh ∧
      Ring.outcome ⟨slotOf .showing, freeSlot, freeSlot⟩ = .repeated ∧
      Ring.outcome ⟨freeSlot, freeSlot, slotOf .writing⟩ = .noFrame) ∧
      (⟨slotOf .ready, freeSlot, freeSlot⟩ : Machine.Ring).choose.find .showing =
        some { slotOf .showing with record := some ⟨7, 1000, 20, 0, 1⟩ } ∧
      (List.replicate 7 (⟨0, none, 0⟩ : Shown)).length < 8 ∧ ¬(List.replicate 8 (⟨0, none, 0⟩ : Shown)).length < 8 := by
  decide

theorem witness_RingMoves :
    let r : Ring := ⟨slotOf .ready, slotOf .writing, slotOf .showing⟩
    let q : Ring := ⟨slotOf .showing, freeSlot, freeSlot⟩
    (∀ st, st ≠ SlotState.free → r.count st ≤ 1) ∧
      (∀ slot ∈ [r.slot0, r.slot1, r.slot2], slot.record.isSome = (slot.state != .free)) ∧
      r.find .writing = some (slotOf .writing) ∧ r.find .ready = some (slotOf .ready) ∧
      (∀ st, st ≠ SlotState.free → q.count st ≤ 1) ∧ q.find .ready = none ∧ q.shownRecord.isSome = true ∧
      emptyRing.find .ready = none ∧ emptyRing.find .showing = none :=
  ⟨fun st h => by cases st <;> first | exact absurd rfl h | decide, by decide, rfl, rfl,
    fun st h => by cases st <;> first | exact absurd rfl h | decide, rfl, rfl, rfl, rfl⟩

/-- A side with two entries in its history. -/
def shownTwo : State :=
  showing emptyRing [⟨4, some 100, 0xAB⟩, ⟨5, none, 0xCD⟩] .normal true

theorem witness_EchoArrival :
    shownTwo.powered = true ∧ FaultLaw shownTwo ∧ ViewLaw shownTwo ∧ (shownTwo.side .right).sup.view = .off ∧
      (shownTwo.side .left).sup.view ≠ .off ∧ ((1 : Byte).toNat ≠ sideCode .left ∧ (0 : Byte).toNat = sideCode .left) ∧
      (∀ h ∈ (shownTwo.side .left).display.history, h.number ≠ 6) ∧
      ((shownTwo.side .left).display.history = [⟨4, some 100, 0xAB⟩] ++ ⟨5, none, 0xCD⟩ :: [] ∧
        ∀ h ∈ [(⟨4, some 100, 0xAB⟩ : Shown)], h.number ≠ 5) :=
  ⟨rfl, faultLaw_of rfl rfl rfl, viewLaw_of rfl rfl, rfl, by decide, by decide, by decide, rfl, by decide⟩

/-- A receiver that holds bytes, its idle timer due. -/
def receiving (bytes : List Byte) : State :=
  liveWith fun d => { d with display := { d.display with received := bytes, idleTimer := some 0 } }

theorem witness_EchoRecordBytes :
    (receiving []).powered = true ∧ ((receiving []).side .left).display.received = [] ∧ (0xEB : Byte) ≠ 0xEC ∧
      (((receiving [0xEC, 0, 1, 2]).side .left).display.received ≠ [] ∧
        ((receiving [0xEC, 0, 1, 2]).side .left).display.received.length < 5) ∧
      ((receiving [0xEC, 0, 1, 2, 3]).side .left).display.received = [0xEC, 0, 1, 2, 3] ∧
      due ((receiving [0xEC]).side .left).display.idleTimer (receiving [0xEC]).now = true := by decide

theorem witness_StartAndEchoTimers :
    let s := liveWith fun d =>
      { d with display := { d.display with echoTimer := some 0 }, sup := { d.sup with startTimer := some 0 } }
    s.powered = true ∧ ViewLaw s ∧ due (s.side .left).display.echoTimer s.now = true ∧
      due (s.side .left).sup.startTimer s.now = true ∧ (s.side .left).sup.view ≠ .off :=
  ⟨rfl, viewLaw_of rfl rfl, rfl, rfl, by decide⟩

/-- A transition raised and cleared in one list, a group of five kinds, and queues of 31 and 32 records. -/
theorem witness_Records :
    (formRecords [⟨.echoLost, .raised, .left, .plain⟩, ⟨.echoLost, .cleared, .left, .plain⟩]).map Draft.direction =
        [.raised, .cleared] ∧
      (formRecords ([.linkLost, .displayRepeat, .latencyOver, .echoLost, .tagMismatch].map
        fun k => ⟨k, .raised, .left, .plain⟩)).map Draft.more = [true, false] ∧
      (let r : Record := ⟨0, 0, .left, .raised, [.echoLost], .plain, false, .off, .off, 0⟩
       (⟨List.replicate 31 r, 31, 7⟩ : Reports).records.length < 32 ∧
         32 ≤ (⟨List.replicate 32 r, 32, 7⟩ : Reports).records.length ∧ 7 ≤ 7) := by decide

theorem witness_VehicleState :
    (FaultLaw live ∧ ViewLaw live ∧ WindowLaw live) ∧
      (Answerable .vehicleState [2, 0, 0, 2, 0, 0] live ∧ ([2, 0, 0, 2, 0, 0].getD 0 0 : Byte).getLsbD 1 = true ∧
        1 < uField [2, 0, 0, 2, 0, 0] 3 1) ∧
      (Answerable .vehicleState [2, 0, 0, 1, 0, 0] live ∧ uField [2, 0, 0, 1, 0, 0] 3 1 ≤ 1) ∧
      (Answerable .vehicleState [5, 0, 0, 2, 0, 0] live ∧ ([5, 0, 0, 2, 0, 0].getD 0 0 : Byte).getLsbD 1 = false) :=
  ⟨⟨live_faultLaw, live_viewLaw, live_windowLaw⟩, ⟨answerable (by decide), by decide, by decide⟩,
    ⟨answerable (by decide), by decide⟩, answerable (by decide), by decide⟩

/-- Signals that arrived and whose freshness timers are due. -/
def stale : State :=
  { live with signals := ⟨0, true, 90, ⟨true, true, some 0⟩, ⟨true, true, some 0⟩, ⟨true, true, some 0⟩⟩ }

theorem witness_FreshnessTimer (sig : Signal) :
    stale.powered = true ∧ FaultLaw stale ∧ ViewLaw stale ∧ WindowLaw stale ∧
      due (freshnessTimer stale.signals sig) stale.now = true ∧
      (match sig with
        | .speed => stale.signals.speedStatus.arrived
        | .reverse => stale.signals.reverseStatus.arrived
        | .angle => stale.signals.angleStatus.arrived) = true :=
  ⟨rfl, live_faultLaw, live_viewLaw, live_windowLaw, by cases sig <;> rfl, by cases sig <;> rfl⟩

/-- `live` when its next sample is due. -/
def sampling : State := { live with now := 1000 }

theorem witness_Sample :
    (sampling.powered = true ∧ due (some sampling.health.nextSample) sampling.now = true ∧ FaultLaw sampling ∧
      ViewLaw sampling) ∧
      live.powered = true ∧ due (some live.health.nextSample) live.now = false :=
  ⟨⟨rfl, rfl, live_faultLaw, live_viewLaw⟩, rfl, rfl⟩

/-- R163: a sample is taken when it is due, and not twice at one time. -/
theorem test_sample_when_due :
    ((after? (.sample 3100 60) sampling).map fun t => (t.health.supply, t.health.nextSample)) = some (some 3100, 2000) ∧
      (((after? (.sample 3100 60) sampling).bind (after? (.sample 2500 60))).map fun t => t.health.supply) =
        some (some 3100) ∧
      ((after? (.sample 3100 60) live).map fun t => t.health.supply) = some none := by decide

/-- `live` with an INSPECT entry whose timer is due. -/
def inspecting : State :=
  liveWith fun d =>
    { d with geometry := { d.geometry with overrides := ⟨some .curb, false, none⟩, inspectTimer := some 0 } }

theorem witness_ViewRequests :
    WindowLaw inspecting ∧
      (Answerable .adjustView [2, 0, 0, 0, 0, 0] inspecting ∧ 1 < uField [2, 0, 0, 0, 0, 0] 0 1) ∧
      (Answerable .adjustView [0, 2, 0, 0, 0, 0] inspecting ∧ 1 < uField [0, 2, 0, 0, 0, 0] 1 1) ∧
      (Answerable .adjustView [0, 1, 0, 0, 0, 0] inspecting ∧
        uField [0, 1, 0, 0, 0, 0] 0 1 = sideCode .left ∧ uField [0, 1, 0, 0, 0, 0] 1 1 = 1) ∧
      (Answerable .inspect [0, 2, 0] inspecting ∧ 1 < uField [0, 2, 0] 1 1) ∧
      (Answerable .inspect [1, 0, 0] inspecting ∧ uField [1, 0, 0] 0 1 = sideCode .right ∧
        (inspecting.side .right).sup.view = .off) ∧
      (Answerable .inspect [0, 1, 61] inspecting ∧ (inspecting.side .left).sup.view ≠ .off) ∧
      (Answerable .endInspect [3] inspecting ∧ 2 < uField [3] 0 1) ∧
      (Answerable .endInspect [2] inspecting ∧ uField [2] 0 1 ≤ 2) ∧
      (inspecting.powered = true ∧ due (inspecting.side .left).geometry.inspectTimer inspecting.now = true ∧
        (inspecting.side .left).geometry.overrides.inspect.isSome = true) :=
  ⟨windowLaw_of (by decide) (by decide), ⟨answerable (by decide), by decide⟩, ⟨answerable (by decide), by decide⟩,
    ⟨answerable (by decide), by decide, by decide⟩, ⟨answerable (by decide), by decide⟩,
    ⟨answerable (by decide), by decide, by decide⟩, ⟨answerable (by decide), by decide⟩,
    ⟨answerable (by decide), by decide⟩, ⟨answerable (by decide), by decide⟩, rfl, rfl, rfl⟩

theorem witness_SettingRequests_timing :
    (Answerable .setTiming [0, 0, 0, 0, 2, 0, 0, 0] base ∧ 1 < uField [0, 0, 0, 0, 2, 0, 0, 0] 4 1) ∧
      (Answerable .setTiming [0, 0, 0, 0, 1, 1, 0, 0] live ∧ uField [0, 0, 0, 0, 1, 1, 0, 0] 4 1 ≤ 1 ∧
        uField [0, 0, 0, 0, 1, 1, 0, 0] 5 1 ≤ 1 ∧ live.left.sup.view ≠ .off) ∧
      (Answerable .setTiming [0, 0, 0, 0, 1, 1, 0, 0] base ∧ base.left.sup.view = .off ∧ base.right.sup.view = .off) :=
  ⟨⟨answerable (by decide), by decide⟩, ⟨answerable (by decide), by decide, by decide, by decide⟩,
    answerable (by decide), rfl, rfl⟩

theorem witness_SettingRequests (k : RequestKind) (h : k = .setGlare ∨ k = .setTone ∨ k = .setExposureLimits) :
    (Answerable k (3 :: List.replicate (fixedLength k - 1) 0) base ∧
      2 < uField (3 :: List.replicate (fixedLength k - 1) 0) 0 1) ∧
      (Answerable k (2 :: List.replicate (fixedLength k - 1) 0) base ∧
        uField (2 :: List.replicate (fixedLength k - 1) 0) 0 1 ≤ 2) := by
  rcases h with rfl | rfl | rfl <;>
    exact ⟨⟨answerable (by decide), by decide⟩, answerable (by decide), by decide⟩

set_option maxRecDepth 100000 in
theorem witness_ModifyingRequests :
    (Answerable .storeWrite [63, 127, 1, 0] base ∧ uField [63, 127, 1, 0] 0 1 ≤ 63 ∧
        uField [63, 127, 1, 0] 1 1 ≤ 127 ∧ 1 ≤ uField [63, 127, 1, 0] 2 1 ∧ uField [63, 127, 1, 0] 2 1 ≤ 128) ∧
      Answerable .storeWrite (8 :: 0 :: 128 :: List.replicate 128 0) base ∧
      (Answerable .storeErase [63] base ∧ uField [63] 0 1 ≤ 63) ∧ Answerable .storeLockFactory [] base ∧
      (Answerable .saveProfile [3] base ∧ uField [3] 0 1 ≤ 3) ∧
      (Answerable .storeWrite [64, 0, 0] base ∧ 63 < uField [64, 0, 0] 0 1) ∧
      (Answerable .storeWrite [0, 128, 0] base ∧ 127 < uField [0, 128, 0] 1 1) ∧
      (Answerable .storeWrite (8 :: 0 :: 129 :: List.replicate 129 0) base ∧
        128 < uField (8 :: 0 :: 129 :: List.replicate 129 (0 : Byte)) 2 1) ∧
      (Answerable .storeErase [64] base ∧ 63 < uField [64] 0 1) ∧
      (Answerable .saveProfile [4] base ∧ 3 < uField [4] 0 1) :=
  ⟨⟨answerable (by decide), by decide, by decide, by decide, by decide⟩, answerable (by decide),
    ⟨answerable (by decide), by decide⟩, answerable (by decide), ⟨answerable (by decide), by decide⟩,
    ⟨answerable (by decide), by decide⟩, ⟨answerable (by decide), by decide⟩, ⟨answerable (by decide), by decide⟩,
    ⟨answerable (by decide), by decide⟩, answerable (by decide), by decide⟩

theorem witness_UnlockReadAndProtect :
    Answerable .storeUnlock [] base ∧ Answerable .storeUnlock [] (busy .lock) ∧
      Answerable .storeRead [63, 127, 129] base ∧ Answerable .storeRead [64, 0, 0] base ∧
      Answerable .storeProtect [65] base :=
  ⟨answerable (by decide), answerable (by decide), answerable (by decide), answerable (by decide),
    answerable (by decide)⟩

theorem witness_StorePhases :
    let w : StoreWork := .save 3 (List.replicate 256 0) 3
    let v : StoreWork := .save 3 (List.replicate 256 0) 4
    (StoreLaw (busy w) ∧ (busy w).powered = true ∧ (busy w).store.operation = some ⟨w, 0⟩ ∧
        due (some 0) (busy w).now = true) ∧
      StoreLaw (busy v) ∧ StoreLaw (busy (.erase 63)) ∧ StoreLaw (busy .lock) ∧
      StoreLaw (busy (.write 63 127 [0, 1])) ∧ (busy v).link.resetPending = none ∧
      ({ busy v with link := { base.link with resetPending := some 7 } } : State).link.resetPending = some 7 :=
  ⟨⟨busy_storeLaw ⟨by decide, List.length_replicate, by decide, by decide, rfl, rfl⟩, rfl, rfl, rfl⟩,
    busy_storeLaw ⟨by decide, List.length_replicate, by decide, by decide, rfl, rfl⟩, busy_storeLaw ⟨by decide, rfl⟩,
    busy_storeLaw rfl, busy_storeLaw ⟨by decide, by decide, by decide, by decide, rfl⟩, rfl, rfl⟩

theorem witness_LoadProfile :
    Answerable .loadProfile [3] base ∧ Answerable .loadProfile [4] base ∧ validWindow fullArea = true ∧
      (defaultSide fullArea).table.length = 65 ∧ sideInRange (defaultSide fullArea) ∧
      inside fullArea (defaultSide fullArea).main = true ∧ thresholdsInRange defaultThresholds :=
  ⟨answerable (by decide), answerable (by decide), by decide, rfl, live_settingsLaw.1 .left, by decide,
    live_settingsLaw.2.1⟩

theorem witness_StartAndStopView :
    (Answerable .startView [3] base ∧ 2 < uField [3] 0 1) ∧
      (Answerable .startView [2] live ∧ uField [2] 0 1 ≤ 2 ∧
        ∃ x, names (uField [2] 0 1) x = true ∧ (live.side x).sup.view ≠ .off) ∧
      (Answerable .startView [1] live ∧ ∀ x, names (uField [1] 0 1) x = true → (live.side x).sup.view = .off) ∧
      (Answerable .stopView [3] base ∧ 2 < uField [3] 0 1) ∧
      (Answerable .stopView [0] live ∧ names (uField [0] 0 1) .left = true ∧ (live.side .left).sup.view ≠ .off ∧
        names (uField [0] 0 1) .right = false) :=
  ⟨⟨answerable (by decide), by decide⟩, ⟨answerable (by decide), by decide, .left, by decide, by decide⟩,
    ⟨answerable (by decide), fun x h => by cases x <;> first | rfl | exact absurd h (by decide)⟩,
    ⟨answerable (by decide), by decide⟩, answerable (by decide), by decide, by decide, by decide⟩

/-- `live` with CALIBRATION_DAMAGED in both sets, and SIDE_CROSSED held on side L. -/
def damaged : State :=
  let f := emptyFaults.set .calibrationDamaged .active
  { live with
    left := { running with sup := { running.sup with view := .blanked, faults := f.set .sideCrossed .held } },
    right := { live.right with sup := { live.right.sup with faults := f } } }

theorem witness_RestoreView :
    (Answerable .restoreView [3, 0] damaged ∧ 2 < uField [3, 0] 0 1) ∧
      (Answerable .restoreView [0, 19] damaged ∧ 18 < uField [0, 19] 1 1) ∧
      (Answerable .restoreView [2, 18] damaged ∧ uField [2, 18] 0 1 ≤ 2 ∧ uField [2, 18] 1 1 ≤ 18) ∧
      FaultLaw damaged ∧ ViewLaw damaged ∧ WindowLaw damaged ∧
      (names 2 .left = true ∧ (damaged.faults .left).stands .calibrationDamaged = true ∧
        damaged.store.operation.isNone = true ∧ (damaged.faults .left).get .sideCrossed = .held) :=
  ⟨⟨answerable (by decide), by decide⟩, ⟨answerable (by decide), by decide⟩,
    ⟨answerable (by decide), by decide, by decide⟩, faultLaw_of (by decide) (by decide) (by decide),
    viewLaw_of (by decide) (by decide), windowLaw_of (by decide) (by decide), by decide, by decide, by decide, by decide⟩

theorem witness_ProfileBytes :
    3 ≤ 3 ∧ SettingsLaw live ∧
      ∀ x i a b, (live.side x).tone.table[i]? = some a → (live.side x).tone.table[i + 1]? = some b → b ≤ a + 255 := by
  refine ⟨by decide, live_settingsLaw, fun x i a b h1 h2 => ?_⟩
  have table : (live.side x).tone.table = defaultToneTable := by cases x <;> rfl
  rw [table] at h1 h2
  have steps : ∀ i : Fin 64, defaultToneTable.getD (i + 1) 0 ≤ defaultToneTable.getD i 0 + 255 := by decide
  have hi : i < 64 := by
    have := (List.getElem?_eq_some_iff.1 h2).1
    have : i + 1 < 65 := this
    omega
  have := steps ⟨i, hi⟩
  simpa [List.getD_eq_getElem?_getD, h1, h2] using this

theorem witness_ClampedWindows :
    validWindow ⟨96, 0, 1728, 1080⟩ = true ∧ inside fullArea ⟨96, 0, 1728, 1080⟩ = true := by decide

theorem witness_PixelValues :
    (defaultToneTable.length = 65 ∧ defaultToneTable.Pairwise (· ≤ ·) ∧ 524287 ≤ 524287) ∧
      (59 ≤ 59 ∧ 60 ≤ 1859 ∧ 1860 ≤ 1919) ∧ gainColumns 60 = (0, 1, 0) ∧ gainRows 45 = (0, 1, 0) ∧
      (∀ v ∈ [4096, 4096, 4096, 4096], 512 ≤ v ∧ v ≤ 4096) ∧
      ([⟨1, 2, 3, 4⟩] : List Quad)[0]? = some ⟨1, 2, 3, 4⟩ ∧ (1279 ≤ 1279 ∧ 799 ≤ 799) ∧
      (0 < fullArea.w ∧ 0 < fullArea.h) := by decide


/-! ## Well-formedness: an ill-formed command for each check, refused -/

theorem test_wellFormed_refuses_long_payload : (Instr.status 0 (List.replicate 249 0)).wellFormed = false := by decide +kernel
theorem test_wellFormed_refuses_request_poll : (Instr.pollWindow [0xA5, 1]).wellFormed = false := by decide
theorem test_wellFormed_refuses_collect_poll : (Instr.pollWindow [0x5A]).wellFormed = false := by decide
theorem test_wellFormed_refuses_supply : (Instr.sample 5001 20).wellFormed = false := by decide
theorem test_wellFormed_refuses_temperature :
    (Instr.sample 3000 (-51)).wellFormed = false ∧ (Instr.sample 3000 201).wellFormed = false := by decide
theorem test_wellFormed_refuses_ack_that_is_nack : (Instr.ackArrival .left 1 7).wellFormed = false := by decide
theorem test_wellFormed_refuses_nack_that_is_ack : (Instr.nackArrival .left 0 7).wellFormed = false := by decide
theorem test_wellFormed_accepts : (Instr.pollWindow [0]).wellFormed = true ∧ (Instr.sample 5000 (-50)).wellFormed = true := by
  decide

/-- No row of spec/opcode_table.json gives bits. -/
theorem test_decodeTableWord : decodeTableWord 8 0 = none ∧ decodeTableWord 32 0xFFFFFFFF = none := by decide

/-! ## Worked examples of the spec -/

/-- The byte of a digit in ASCII. -/
def digit (n : Nat) : Byte := BitVec.ofNat 8 (48 + n)

set_option maxRecDepth 100000 in
/-- R201: the CRC-16 of the nine digits 1 to 9. -/
theorem test_crc16 : crc16 ((List.range 9).map fun n => digit (n + 1)) = 0x29B1 := by decide +kernel

/-- 3.6.1 and 4.11.1: decompanded codes and the luminance of the quad. -/
theorem test_decompand :
    [1000, 1500, 2500, 3072, 4095].map decompand = [1000, 4832, 38144, 74752, 598528] ∧
      (Quad.luminance ⟨1000, 4832, 4832, 38144⟩) = 12202 := by decide

/-- 1.2: the triggers of a start at 1,000,000 with the default timing. -/
theorem test_startTriggers :
    let d := startTriggers 1000000 live.timing resetSide
    d.vsync = ⟨true, 1016667, 16667⟩ ∧ d.cam = ⟨true, 1014334, 16667⟩ := by decide

/-- 1.2: a hold of 1,099 µs fires at the frame end, one of 2,232 µs is dropped and counted. -/
theorem test_releaseHold :
    ((releaseHold .left { liveWith (fun d => { d with held := some 1031001 }) with now := 1032100 }).out =
      [.pulse .left]) ∧
      (let t := releaseHold .left { liveWith (fun d => { d with held := some 1047668 }) with now := 1049900 }
       t.out = [] ∧ t.left.counters.triggersLate = 1 ∧ t.left.sup.faults.get .triggerLate = .active) := by decide

/-- 2.5: the line correction's cases; the transaction admitted carries the opposite sign. -/
theorem test_lineCorrection :
    lineCorrection 110 16667 = 7 ∧ lineCorrection 130 22500 = 7 ∧ lineCorrection (-130) 22500 = -7 ∧
      lineCorrection (-240) 22500 = -8 ∧ lineCorrection (-2000) 22500 = -8 ∧
      (submit .left (.adjustLength (-(lineCorrection 110 16667))) base).left.channel.inFlight =
        some ⟨.adjustLength (-7), 1, false⟩ := by decide

/-- 3.6.2: the first, second, third, fifth and sixth exposure cases. -/
theorem test_exposureSteps :
    let l : ExposureLimits := ⟨1, 4096, 40000, 400, 200⟩
    newExposure l 320 (rawExposure l 320 64000) = 280 ∧ newExposure l 900 (rawExposure l 900 23000) = 1012 ∧
      newExposure l 900 (rawExposure l 900 38388) = 937 ∧ newExposure l 280 (rawExposure l 280 0) = 315 ∧
      newExposure { l with emax := 3000 } 3900 (rawExposure { l with emax := 3000 } 3900 39500) = 3000 ∧
      newExposure l 5 (rawExposure l 5 10000) = 6 := by decide

/-- The windows in force of 3.6.2. -/
def mainWindow : Window := ⟨480, 90, 960, 540⟩
def wideWindow : Window := ⟨240, 630, 1440, 450⟩

/-- 3.6.2 and 4.10: 48 and 60 window tiles, caps of 12 and 15. -/
theorem test_windowTiles :
    (windowTiles mainWindow).length = 48 ∧ (windowTiles wideWindow).length = 60 ∧
      windowCap 25 mainWindow = 12 ∧ windowCap 25 wideWindow = 15 := by decide +kernel

/-- The completion of frame 6 of 4.10: each tile hot where a region has it. -/
def frameSix : Completed :=
  ⟨(List.range 192).map fun t =>
      if insideBox t ⟨6, 3, 8, 5⟩ then ⟨0, 480000, 8, 0⟩
      else if insideBox t ⟨10, 2, 11, 3⟩ then ⟨0, 410000, 8, 0⟩ else ⟨0, 299999, 2700, 0⟩, 900, 300000⟩

set_option maxRecDepth 100000 in
/-- Two regions of hot tiles, the second of which holds a tile beside one of its tiles. -/
theorem witness_GlareCompletion_regions :
    (formRegions frameSix (hotTiles 8 frameSix)).map Region.tiles =
        [[54, 55, 56, 70, 71, 72, 86, 87, 88], [42, 43, 58, 59]] ∧
      (42 / 16 = 43 / 16 ∧ 42 + 1 = 43) ∧ 42 + 16 = 58 := by decide +kernel

set_option maxRecDepth 100000 in
/-- 4.10: the tracker's table, its denial and its regions at frame 6, from the table of frame 5. -/
theorem test_track :
    let g : Glare := ⟨[⟨41, .confirmed, 3, 0, ⟨6, 3, 8, 5⟩, 480000, .granted, 4⟩,
      ⟨42, .candidate, 2, 0, ⟨10, 2, 11, 3⟩, 400000, .none, 1⟩,
      ⟨43, .candidate, 1, 0, ⟨7, 7, 7, 7⟩, 310000, .none, 0⟩], 43, [], 0, 0, defaultGlare, []⟩
    let (t, overflowed, denied) := track frameSix mainWindow wideWindow g
    t.table = [⟨41, .confirmed, 3, 0, ⟨6, 3, 8, 5⟩, 480000, .granted, 5⟩,
        ⟨42, .confirmed, 3, 0, ⟨10, 2, 11, 3⟩, 410000, .denied, 2⟩] ∧
      overflowed = 0 ∧ denied = 1 ∧ t.formed = 2 ∧ t.kept = 2 := by decide +kernel

/-- 4.11.2: the overlaps of the two regions, and the choice when they tie. -/
theorem test_association :
    let box : Box := ⟨4, 5, 5, 5⟩
    let first : Region := ⟨⟨3, 4, 3, 6⟩, 330000, [67, 83, 99], 67, none⟩
    let second : Region := ⟨⟨6, 5, 7, 6⟩, 360000, [86, 87, 102], 86, none⟩
    let third : Region := ⟨⟨6, 4, 7, 6⟩, 360000, [70, 86, 87, 102], 70, none⟩
    overlap box first = 3 ∧ overlap box second = 2 ∧ bestRegion box [second, first] = some first ∧
      bestRegion box [third, first] = some third := by decide

/-- 5.7.1: the six targets. -/
theorem test_targets :
    let g (c f : Nat) : GlareSettings := { defaultGlare with ceiling := c, floor := f }
    [targetGain (g 60000 512) (some 480000), targetGain (g 60000 512) (some 150000),
      targetGain (g 60000 512) (some 598528), targetGain (g 60000 1024) (some 480000),
      targetGain (g 1000 512) (some 10000), targetGain (g 598528 512) (some 300000)] =
      [512, 1638, 512, 1024, 512, 4096] := by decide

/-- 5.7.2: steps of a ramp down, cut short at the target, and up. -/
theorem test_ramps :
    [rampGain defaultGlare 4096 585, rampGain defaultGlare 2048 1638, rampGain defaultGlare 1638 1638,
      rampGain defaultGlare 2560 4096, rampGain defaultGlare 2304 522] = [3584, 1638, 1638, 2816, 1792] := by decide

/-- 5.7.3: the interpolated gain of pixel (690, 360). -/
theorem test_pixelGain :
    pixelGain ((List.range 192).map fun t => if insideBox t ⟨6, 3, 7, 4⟩ then 1638 else 4096) 690 360 = 3482 := by
  decide +kernel

/-- 5.7.3: the second quad under gains 1,638 and 4,096. -/
theorem test_quad :
    let table : List Nat := (List.range 65).map fun i =>
      if i = 9 then 610 else if i = 10 then 640 else if i = 24 then 880 else if i = 25 then 890 else 0
    keyedLuminance 256 1638 200000 = 79980 ∧ displayCode table 79980 = 632 ∧
      [230400, 204800, 160000].map (fun v => developedCode v 200000 632) = [728, 647, 505] ∧
      displayCode table (keyedLuminance 256 4096 200000) = 884 ∧
      [230400, 204800, 160000].map (fun v => developedCode v 200000 884) = [1018, 905, 707] := by decide

/-- 5.7.4: the ends of the range. -/
theorem test_ends :
    keyedLuminance 1024 4096 598528 = 524287 ∧ displayCode defaultToneTable (keyedLuminance 64 512 598528) = 191 := by
  decide

/-- The geometry of side L in 6.8. -/
def leftGeometry : Geometry :=
  { resetGeometry with bounds := ⟨96, 0, 1728, 1080⟩, baseMain := mainWindow, baseWide := wideWindow }

/-- 6.8.1: the moved windows after the clamp. -/
theorem test_clamps :
    clampAt leftGeometry.bounds 379 105 960 540 = ⟨378, 104, 960, 540⟩ ∧
      clampAt leftGeometry.bounds (-42) (-16) 960 540 = ⟨96, 0, 960, 540⟩ ∧
      clampAt leftGeometry.bounds 396 90 960 540 = ⟨396, 90, 960, 540⟩ ∧
      clampAt leftGeometry.bounds 2396 90 960 540 = ⟨864, 90, 960, 540⟩ := by decide

/-- 6.8.2: pans toward side L, and the MAIN windows in force. -/
theorem test_pans :
    let x (angle : Int) := (resolveMain .left { leftGeometry with overrides := ⟨none, false, some (panOf 12 angle)⟩ }).x
    [x 95, x 180, x 600, x 65, x 83] = [366, 264, 96, 402, 380] ∧ (slewValue 480 366, slewValue 384 366) = (456, 366) := by
  decide

/-- 9.3.1: a group of six kinds forms two records, the first with the more flag. -/
theorem test_records :
    formRecords ([.linkLost, .displayRepeat, .latencyOver, .echoLost, .tagMismatch, .phaseUnlocked].map
        fun k => ⟨k, .cleared, .left, .plain⟩) =
      [⟨.cleared, .left, .plain, [.linkLost, .displayRepeat, .latencyOver, .echoLost], true⟩,
        ⟨.cleared, .left, .plain, [.tagMismatch, .phaseUnlocked], false⟩] := by decide

/-- 9.4.1: the samples of the supply dip, one level at a time. -/
theorem test_supplyDip :
    let t := defaultThresholds
    let low : Levels := ⟨true, false, false, false⟩
    let both : Levels := ⟨true, true, false, false⟩
    levelsAfter t 2980 60 ⟨false, false, false, false⟩ = low ∧ levelsAfter t 2880 60 low = both ∧
      levelsAfter t 2940 60 both = both ∧ levelsAfter t 2960 60 both = low ∧ levelsAfter t 3040 60 low = low ∧
      levelsAfter t 3060 60 low = ⟨false, false, false, false⟩ := by decide

/-- Chapter 11: a byte written over another is the AND of the two; a write past the end of a block wraps into it. -/
theorem test_storeWrites :
    readCell (andCell (andCell [] 5 0xF0) 5 0x3C) 5 = 0x30 ∧
      (let cells := writeBlock 9 126 [1, 2, 3] []
       [readCell cells (cellAddress 9 126), readCell cells (cellAddress 9 127), readCell cells (cellAddress 9 0)]) =
        [1, 2, 3] ∧
      readCount 63 100 128 = 28 := by decide

/-- 10.6.1, window 3: the reply that waits is replaced, and LOST and its counter are set. -/
theorem test_replacedReply :
    let t := placeReply [0x83] (linkWith fun l => { l with slot := some [0x8E], lostReplies := 0 })
    t.link.slot = some [0x83] ∧ t.link.lost = true ∧ t.link.lostReplies = 1 := by decide

/-- 11.6: the tone table's steps as a save stores them, each at most 255. -/
theorem test_toneSteps : toneSteps 500 [800, 820] = [255, 65] ∧ rebuildTable 500 [255, 65] = [500, 755, 820] := by decide

end Sys2Proof.Tests
end

/-! # One scheme for every invariant

A step is the front command, an event of the part's own, or a microsecond. `Kept` lists what has to be shown of a law so
that every step keeps it: one entry for each command, and one for what every event does to the link, the queue and the
record of the event. `Kept.step` is the case split over the commands, made once. -/

namespace Sys2Proof.Machine

/-- Two links that differ only in what windows and replies leave: the part state and its timers are alike, and LOST
means a waiting reply in the second if it does in the first. -/
structure SameLinkState (l m : Link) : Prop where
  part : m.part = l.part
  initTimer : m.initTimer = l.initTimer
  wakeTimer : m.wakeTimer = l.wakeTimer
  lost : (l.lost = true → l.slot.isSome = true) → m.lost = true → m.slot.isSome = true

theorem SameLinkState.refl (l : Link) : SameLinkState l l := ⟨rfl, rfl, rfl, id⟩

/-- A state with another link, another record of the event, other free values used and another queue. -/
def State.withFrame (s : State) (l : Link) (out : List Output) (handed : List Transition) (free : Nat)
    (pending : List Instr) : State :=
  { s with link := l, out := out, handed := handed, freeCount := free, pending := pending }

/-- What a law must satisfy for every step to keep it. -/
structure Kept (L : State → Prop) : Prop where
  frame : ∀ s l out handed free pending, SameLinkState s.link l → L s → L (s.withFrame l out handed free pending)
  tick : ∀ s, dueEvents s = [] → L s → L (tick s)
  powerOn : ∀ s, L (powerOn s)
  powerLoss : ∀ s, L s → L (losePower s)
  initCompletion : ∀ wakeHigh s, s.powered = true → due s.link.initTimer s.now = true → L s →
    L (initCompleted wakeHigh s)
  vsync : ∀ x s, s.powered = true → (s.side x).vsync.due s.now = true → L s → L (vsyncExpired x s)
  camTrigger : ∀ x s, s.powered = true → (s.side x).cam.due s.now = true → L s → L (settle (camExpired x s))
  frameStart : ∀ x number exposure length s, s.powered = true → L s → L (frameStart x number exposure length s)
  line : ∀ x bytes s, s.powered = true → L s → L (lineArrived x bytes s)
  frameEnd : ∀ x s, s.powered = true → L s → L (frameEnd x s)
  linkLost : ∀ x s, s.powered = true → due (s.side x).port.linkLost s.now = true → L s → L (linkLostExpired x s)
  exposureTaken : ∀ x s, s.powered = true → L s → L (takeExposure x s)
  glareTaken : ∀ x s, s.powered = true → L s → L (takeGlare x s)
  dispatch : ∀ x s, s.powered = true → L s → L (dispatch x s)
  acknowledged : ∀ x s, s.powered = true → L s → L (endQuiescing (settle (acknowledged x s)))
  failed : ∀ x s, s.powered = true → L s → L (endQuiescing (settle (failed x s)))
  echo : ∀ x code number crc s, s.powered = true → L s → L (echoArrived x code number crc s)
  echoByte : ∀ x b s, s.powered = true → L s → L (echoByte x b s)
  echoTimer : ∀ x s, s.powered = true → due (s.side x).display.echoTimer s.now = true → L s →
    L (settle (raise x .echoLost (s.onSide x fun d => { d with display := { d.display with echoTimer := none } })))
  echoIdle : ∀ x s, s.powered = true → L s → L (s.onSide x fun d => { d with display := clearReceiver d.display })
  startTimer : ∀ x s, s.powered = true → due (s.side x).sup.startTimer s.now = true → L s →
    L (settle (raise x .startTimeout (s.onSide x fun d => { d with sup := { d.sup with startTimer := none } })))
  freshness : ∀ sig s, s.powered = true → L s → L (freshnessExpired sig s)
  inspect : ∀ x s, s.powered = true → due (s.side x).geometry.inspectTimer s.now = true → L s →
    L (inspectExpired x s)
  wakeTimer : ∀ s, s.powered = true → due s.link.wakeTimer s.now = true → L s → L (wakeExpired s)
  wakeLine : ∀ s, s.powered = true → L s → L (wakeLineRises s)
  sample : ∀ supply temperature s, s.powered = true → sampleDue s = true → L s →
    L (sampleArrived supply temperature s)
  savePhase : ∀ o s, s.powered = true → s.store.operation = some o → L s → L (advancePhase o s)
  storeDone : ∀ o s, s.powered = true → s.store.operation = some o → L s → L (completeOperation o s)
  deferredReset : ∀ s, s.powered = true → L s → L (deferredReset s)
  endQuiescing : ∀ s, s.powered = true → L s → L (endQuiescing s)
  own : ∀ k tag p s, s.powered = true → inRequestSet s k = true → L s → L (ownerOf k tag p s).state

namespace Kept

variable {L : State → Prop}

/-- An event whose effect keeps the law keeps it. -/
theorem event (K : Kept L) {s t : State} {f : State → State} (h : L s)
    (hf : ∀ u, u.powered = true → L u → L (f u)) (e : Machine.event s f = .next t) : L t := by
  have hb : L s.beginEvent := K.frame s s.link [] [] s.freeCount s.pending (.refl _) h
  unfold Machine.event at e
  cases hp : s.powered with
  | false => simp only [hp, Bool.false_eq_true, if_false, Host.Outcome.next.injEq] at e; exact e ▸ hb
  | true => simp only [hp, if_true, Host.Outcome.next.injEq] at e; exact e ▸ hf _ hp hb

/-- An event with a condition, under which its effect keeps the law. -/
theorem eventIf (K : Kept L) {s t : State} {c : State → Prop} [∀ u, Decidable (c u)] {f : State → State}
    (h : L s) (hf : ∀ u, u.powered = true → c u → L u → L (f u))
    (e : Machine.event s (fun u => if c u then f u else u) = .next t) : L t := by
  refine K.event h (fun u hp hu => ?_) e
  split
  · next hc => exact hf u hp hc hu
  · exact hu

/-- A law holds of a state whose link alone changed in what windows and replies leave. -/
theorem link (K : Kept L) {s : State} {l : Link} (hl : SameLinkState s.link l) (h : L s) : L { s with link := l } :=
  K.frame s l s.out s.handed s.freeCount s.pending hl h

theorem closeWindow (K : Kept L) {s : State} (n : Nat) (carried : List Byte) (h : L s) :
    L (closeWindow n carried s) :=
  K.frame s _ _ s.handed _ s.pending ⟨rfl, rfl, rfl, id⟩ h

theorem placeReply (K : Kept L) {s : State} (frame : List Byte) (h : L s) : L (placeReply frame s) := by
  rw [placeReply_eq]
  exact K.link ⟨rfl, rfl, rfl, fun _ _ => rfl⟩ h

theorem countFrame (K : Kept L) {s : State} (h : L s) : L (countFrame s) :=
  K.link (s := s) ⟨rfl, rfl, rfl, id⟩ h

theorem refuseBadFrame (K : Kept L) {s : State} (kind : Nat) (tag : Byte) (h : L s) : L (refuseBadFrame kind tag s) :=
  K.placeReply _ (K.link (s := s) ⟨rfl, rfl, rfl, id⟩ h)

/-- A collect window that closes leaves the slot empty and LOST clear, or what was there. -/
theorem collect (K : Kept L) {s : State} (clocked : Nat) (h : L s) : L (collect clocked s) := by
  have hc := K.closeWindow (clocked + 1) ((closingWindow s).reply.getD []) h
  unfold Machine.collect
  dsimp only
  split
  · exact hc
  · exact K.link ⟨rfl, rfl, rfl, fun _ h => absurd h Bool.false_ne_true⟩ hc

/-- The checks of R174, then the owning rule and its reply. -/
theorem takeFrame (K : Kept L) {s : State} (k : RequestKind) (tag : Byte) (p : List Byte) (hp : s.powered = true)
    (h : L s) : L (takeFrame k tag p (ownerOf k tag p) s) := by
  unfold Machine.takeFrame
  split
  · exact K.refuseBadFrame _ _ h
  · split
    · exact K.placeReply _ h
    · split
      · exact K.placeReply _ h
      · next hset =>
        have ha := K.own k tag p s hp (by simpa using hset) h
        unfold placeAnswer
        split
        · exact ha
        · exact K.placeReply _ ha

theorem serve (K : Kept L) (k : RequestKind) (tag : Byte) (p : List Byte) (s : State) (hp : s.powered = true)
    (h : L s) : L (serve k tag p (ownerOf k tag p) s) := by
  have hc := K.closeWindow (p.length + 6) [] h
  unfold Machine.serve
  dsimp only
  split
  · exact hc
  · exact K.takeFrame k tag p hp (K.countFrame hc)

theorem requestClosed (K : Kept L) (bytes : List Byte) (s : State) (hp : s.powered = true) (h : L s) :
    L (requestClosed bytes s) := by
  have hc := K.closeWindow (bytes.length + 1) [] h
  unfold Machine.requestClosed
  dsimp only
  split
  · exact hc
  · unfold takeBytes
    split
    · exact K.refuseBadFrame _ _ (K.countFrame hc)
    · split
      · exact K.placeReply _ (K.countFrame hc)
      · exact K.takeFrame _ _ _ hp (K.countFrame hc)

/-- A request as a command: the close of a window, the checks and its owning rule. -/
theorem request (K : Kept L) {s t : State} (k : RequestKind) (tag : Byte) (p : List Byte) (h : L s)
    (e : Machine.event s (Machine.serve k tag p (ownerOf k tag p)) = .next t) : L t :=
  K.event h (K.serve k tag p) e

/-- Every command keeps the law. -/
theorem exec (K : Kept L) {c : Instr} {s t : State} (h : L s) (e : exec c s = .next t) : L t := by
  cases c with
  | powerOn => obtain rfl := Host.Outcome.next.inj e; exact K.powerOn _
  | powerLoss => exact K.event h (fun u _ => K.powerLoss u) e
  | initCompletion w => exact K.eventIf h (K.initCompletion w) e
  | vsyncExpiry x => exact K.eventIf h (K.vsync x) e
  | camTriggerExpiry x => exact K.eventIf h (K.camTrigger x) e
  | frameStartArrival x n ex len => exact K.event h (K.frameStart x n ex len) e
  | lineArrival x bytes => exact K.event h (K.line x bytes) e
  | frameEndArrival x => exact K.event h (K.frameEnd x) e
  | linkLostTimerExpiry x => exact K.eventIf h (K.linkLost x) e
  | exposureCompletionTaken x => exact K.event h (K.exposureTaken x) e
  | glareCompletionTaken x => exact K.event h (K.glareTaken x) e
  | dispatch x => exact K.event h (K.dispatch x) e
  | ackArrival x answer attempt =>
    exact K.eventIf (c := fun u => answer = 0 ∧ current x attempt u = true) h
      (fun u hp _ => K.acknowledged x u hp) e
  | nackArrival x answer attempt =>
    exact K.eventIf (c := fun u => answer = 1 ∧ current x attempt u = true) h (fun u hp _ => K.failed x u hp) e
  | transactionTimerExpiry x =>
    exact K.eventIf (c := fun u => due (u.side x).channel.timer u.now = true) h (fun u hp _ => K.failed x u hp) e
  | echoArrival x code number crc => exact K.event h (K.echo x code number crc) e
  | echoTimerExpiry x => exact K.eventIf h (K.echoTimer x) e
  | echoIdleTimerExpiry x =>
    exact K.eventIf (c := fun u => due (u.side x).display.idleTimer u.now = true) h (fun u hp _ => K.echoIdle x u hp) e
  | startTimerExpiry x => exact K.eventIf h (K.startTimer x) e
  | freshnessTimerExpiry sig =>
    exact K.eventIf (c := fun u => due (freshnessTimer u.signals sig) u.now = true) h
      (fun u hp _ => K.freshness sig u hp) e
  | inspectDurationExpiry x => exact K.eventIf h (K.inspect x) e
  | wakeTimerExpiry => exact K.eventIf h K.wakeTimer e
  | wakeLineRisingEdge => exact K.event h K.wakeLine e
  | sample supply temperature => exact K.eventIf h (K.sample supply temperature) e
  | saveProfilePhaseExpiry =>
    unfold Machine.exec execSaveProfilePhaseExpiry at e
    refine K.event h (fun u hp hu => ?_) e
    split
    · exact hu
    · next o ho =>
      split
      · exact K.savePhase o u hp ho hu
      · exact hu
  | storeOperationCompletion =>
    unfold Machine.exec execStoreOperationCompletion at e
    refine K.event h (fun u hp hu => ?_) e
    split
    · exact hu
    · next o ho =>
      split
      · exact K.storeDone o u hp ho hu
      · exact hu
  | deferredReset => exact K.event h K.deferredReset e
  | enterStandby => exact K.event h K.endQuiescing e
  | chipSelectFalling =>
    exact K.event (f := fun u => { u with link := { u.link with window := some (openedWindow u) } }) h
      (fun u _ hu => K.link (s := u) ⟨rfl, rfl, rfl, id⟩ hu) e
  | collectWindow clocked => exact K.event h (fun u _ => K.collect clocked) e
  | pollWindow bytes => exact K.event h (fun u _ => K.closeWindow bytes.length []) e
  | requestWindowClose bytes => exact K.event h (K.requestClosed bytes) e
  | echoRecordByteArrival x b => exact K.event h (K.echoByte x b) e
  | status tag p => exact K.request .status tag p h e
  | identify tag p => exact K.request .identify tag p h e
  | startView tag p => exact K.request .startView tag p h e
  | stopView tag p => exact K.request .stopView tag p h e
  | setTiming tag p => exact K.request .setTiming tag p h e
  | vehicleState tag p => exact K.request .vehicleState tag p h e
  | adjustView tag p => exact K.request .adjustView tag p h e
  | inspect tag p => exact K.request .inspect tag p h e
  | endInspect tag p => exact K.request .endInspect tag p h e
  | setGlare tag p => exact K.request .setGlare tag p h e
  | setTone tag p => exact K.request .setTone tag p h e
  | setExposureLimits tag p => exact K.request .setExposureLimits tag p h e
  | readGlare tag p => exact K.request .readGlare tag p h e
  | fetchReports tag p => exact K.request .fetchReports tag p h e
  | readHealth tag p => exact K.request .readHealth tag p h e
  | readCounters tag p => exact K.request .readCounters tag p h e
  | restoreView tag p => exact K.request .restoreView tag p h e
  | storeUnlock tag p => exact K.request .storeUnlock tag p h e
  | storeRead tag p => exact K.request .storeRead tag p h e
  | storeWrite tag p => exact K.request .storeWrite tag p h e
  | storeErase tag p => exact K.request .storeErase tag p h e
  | storeProtect tag p => exact K.request .storeProtect tag p h e
  | storeLockFactory tag p => exact K.request .storeLockFactory tag p h e
  | loadProfile tag p => exact K.request .loadProfile tag p h e
  | saveProfile tag p => exact K.request .saveProfile tag p h e
  | standby tag p => exact K.request .standby tag p h e
  | wake tag p => exact K.request .wake tag p h e
  | reset tag p => exact K.request .reset tag p h e

/-- Every step keeps the law. -/
theorem step (K : Kept L) {s t : State} (h : L s) (e : step s = .next t) : L t := by
  unfold Machine.step at e
  split at e
  · next rest _ => exact K.exec (K.frame s s.link s.out s.handed s.freeCount rest (.refl _) h) e
  · split at e
    · exact K.exec h e
    · next hd => obtain rfl := Host.Outcome.next.inj e; exact K.tick s hd h

end Kept

end Sys2Proof.Machine

/-! # What the operations of an event leave unchanged

`SidesOnly` says that an event changed nothing but the sides and its own record; `Sides P` says that each side satisfies
a predicate. An operation of the supervisor changes of a side only its set, its view, its map and its counters, so it
keeps every predicate that is `Blind` to these. -/

namespace Sys2Proof.Machine

/-! ## Nothing but the sides changed -/

/-- The fields of the part as a whole are as before, but for the reports and the record of the event. -/
structure SidesOnly (s t : State) : Prop where
  now : t.now = s.now
  timing : t.timing = s.timing
  signals : t.signals = s.signals
  health : t.health = s.health
  link : t.link = s.link
  store : t.store = s.store
  powered : t.powered = s.powered

namespace SidesOnly

variable {s u v : State} {x : Side}

theorem refl (s : State) : SidesOnly s s := ⟨rfl, rfl, rfl, rfl, rfl, rfl, rfl⟩

theorem trans (h : SidesOnly s u) (g : SidesOnly u v) : SidesOnly s v :=
  ⟨g.now.trans h.now, g.timing.trans h.timing, g.signals.trans h.signals, g.health.trans h.health,
    g.link.trans h.link, g.store.trans h.store, g.powered.trans h.powered⟩

theorem setSide (h : SidesOnly s u) {d : SideState} : SidesOnly s (u.setSide x d) :=
  h.trans (by cases x <;> exact ⟨rfl, rfl, rfl, rfl, rfl, rfl, rfl⟩)

theorem onSide (h : SidesOnly s u) {f : SideState → SideState} : SidesOnly s (u.onSide x f) := h.setSide

theorem record (h : SidesOnly s u) {left right : SideState} {reports : Reports} {out : List Output}
    {handed : List Transition} :
    SidesOnly s { u with left := left, right := right, reports := reports, out := out, handed := handed } :=
  h.trans ⟨rfl, rfl, rfl, rfl, rfl, rfl, rfl⟩

theorem emit (h : SidesOnly s u) {o : Output} : SidesOnly s (u.emit o) :=
  h.trans ⟨rfl, rfl, rfl, rfl, rfl, rfl, rfl⟩

theorem hand (h : SidesOnly s u) {t : Transition} : SidesOnly s (u.hand t) :=
  h.trans ⟨rfl, rfl, rfl, rfl, rfl, rfl, rfl⟩

theorem count (h : SidesOnly s u) {f : Counters → Counters} : SidesOnly s (u.count x f) := h.onSide

theorem setFault (h : SidesOnly s u) {k : FaultKind} {m : Member} : SidesOnly s (u.setFault x k m) := h.onSide

theorem raise (h : SidesOnly s u) {k : FaultKind} : SidesOnly s (raise x k u) := by
  unfold Machine.raise; split
  · exact h
  · exact h.setFault.hand

theorem gone (h : SidesOnly s u) {k : FaultKind} : SidesOnly s (gone x k u) := by
  unfold Machine.gone; split
  · exact h.setFault.hand
  · exact h

theorem raisePart (h : SidesOnly s u) {k : FaultKind} : SidesOnly s (raisePart k u) := by
  rw [raisePart_eq]; exact h.record

theorem gonePart (h : SidesOnly s u) {k : FaultKind} : SidesOnly s (gonePart k u) := by
  unfold Machine.gonePart; split
  · exact h.setFault.setFault.hand
  · exact h

theorem setView (h : SidesOnly s u) {v : ViewState} : SidesOnly s (setView x v u) := by
  rw [setView_eq]; exact h.setSide

theorem settle (h : SidesOnly s u) : SidesOnly s (settle u) := by
  rw [settle_eq]; exact h.record

theorem dispatch (h : SidesOnly s u) : SidesOnly s (dispatch x u) := by
  unfold Machine.dispatch; split
  · exact h.onSide.emit
  · exact h

theorem submit (h : SidesOnly s u) {t : Transaction} : SidesOnly s (submit x t u) := h.onSide.dispatch

/-! ### Capture and channel -/

theorem fire (h : SidesOnly s u) : SidesOnly s (fire x u) := h.emit.gone

theorem dropLate (h : SidesOnly s u) : SidesOnly s (dropLate x u) := h.count.raise

theorem releaseHold (h : SidesOnly s u) : SidesOnly s (releaseHold x u) := by
  unfold Machine.releaseHold; split
  · exact h
  · split
    · exact h.onSide.fire
    · exact h.onSide.dropLate

theorem holdTrigger (h : SidesOnly s u) {e : PartTime} : SidesOnly s (holdTrigger x e u) := by
  unfold Machine.holdTrigger
  dsimp only
  split
  · exact h.dropLate.onSide
  · exact h.onSide

theorem camExpired (h : SidesOnly s u) : SidesOnly s (camExpired x u) := by
  unfold Machine.camExpired
  dsimp only
  split
  · exact h.onSide
  · split
    · exact h.onSide.holdTrigger
    · exact h.onSide.fire

theorem phaseCorrect (h : SidesOnly s u) {e : Int} : SidesOnly s (phaseCorrect x e u) := by
  unfold Machine.phaseCorrect
  repeat' split
  · exact h.onSide
  · exact h
  · exact h
  · exact h.onSide.submit

theorem phaseCount (h : SidesOnly s u) {e : Int} : SidesOnly s (phaseCount x e u) := by
  unfold Machine.phaseCount
  dsimp only
  repeat' split
  · exact h.onSide.gone
  · exact h.onSide
  · exact h.onSide.raise
  · exact h.onSide

theorem measurePhase (h : SidesOnly s u) : SidesOnly s (measurePhase x u) := by
  unfold Machine.measurePhase; split
  · exact h
  · exact h.phaseCorrect.phaseCount

theorem malformed (h : SidesOnly s u) : SidesOnly s (malformed x u) := h.count.raise.gone

theorem frameStart (h : SidesOnly s u) {n e l : Word16} : SidesOnly s (frameStart x n e l u) := by
  unfold Machine.frameStart
  dsimp only
  split
  · exact h
  · split
    · exact h.malformed.onSide.gone.measurePhase.settle
    · exact h.onSide.gone.measurePhase.settle

theorem lineArrived (h : SidesOnly s u) {bytes : List Byte} : SidesOnly s (lineArrived x bytes u) := by
  unfold Machine.lineArrived
  split
  · exact h
  · split
    · exact h
    · exact h.onSide

theorem frozenCheck (h : SidesOnly s u) {f : FrameInProgress} {p : Port} : SidesOnly s (frozenCheck x f p u) := by
  unfold Machine.frozenCheck
  repeat' split
  · exact h.raise
  · exact h
  · exact h.gone

theorem frameEnd (h : SidesOnly s u) : SidesOnly s (frameEnd x u) := by
  unfold Machine.frameEnd
  dsimp only
  split
  · exact h
  · split
    · exact h
    · split
      · exact h.onSide.frozenCheck.releaseHold.settle
      · exact h.onSide.malformed.releaseHold.settle

theorem linkLostExpired (h : SidesOnly s u) : SidesOnly s (linkLostExpired x u) := by
  unfold Machine.linkLostExpired
  dsimp only
  split
  · exact h.onSide.raise.onSide.releaseHold.settle
  · exact h.onSide.raise.settle

theorem acknowledged (h : SidesOnly s u) : SidesOnly s (acknowledged x u) := h.onSide.gone.dispatch

theorem failed (h : SidesOnly s u) : SidesOnly s (failed x u) := by
  unfold Machine.failed
  repeat' split
  · exact h.onSide
  · exact h.onSide.raise.dispatch
  · exact h.onSide.count.emit

/-! ### Exposure, glare and display -/

theorem takeExposure (h : SidesOnly s u) : SidesOnly s (takeExposure x u) := by
  unfold Machine.takeExposure
  split
  · exact h
  · unfold meter
    repeat' split
    · exact h.onSide
    · exact h.onSide
    · exact h.onSide.onSide.submit

theorem takeGlare (h : SidesOnly s u) : SidesOnly s (takeGlare x u) := by
  unfold Machine.takeGlare
  split
  · exact h
  · exact h.onSide

theorem freshFrame (h : SidesOnly s u) : SidesOnly s (freshFrame x u) := h.onSide.gone

theorem repeatCheck (h : SidesOnly s u) {o : RingOutcome} : SidesOnly s (repeatCheck x o u) := by
  unfold Machine.repeatCheck
  repeat' split
  · exact h.gone
  · exact h.raise
  · exact h
  · exact h

theorem endStarting (h : SidesOnly s u) {o : RingOutcome} : SidesOnly s (endStarting x o u) := by
  unfold Machine.endStarting; split
  · exact h.setView
  · exact h

theorem vsyncExpired (h : SidesOnly s u) : SidesOnly s (vsyncExpired x u) := by
  unfold Machine.vsyncExpired showFrame
  dsimp only
  split
  · exact h.onSide
  · split
    · exact h.onSide.freshFrame.repeatCheck.endStarting.settle.onSide
    · exact h.onSide.repeatCheck.endStarting.settle.onSide

theorem tagCheck (h : SidesOnly s u) {b : Bool} : SidesOnly s (tagCheck x b u) := by
  unfold Machine.tagCheck
  dsimp only
  repeat' split
  · exact h.onSide.gone
  · exact h.onSide
  · exact h.onSide.raise
  · exact h.onSide

theorem latencyCheck (h : SidesOnly s u) {c : Option PartTime} : SidesOnly s (latencyCheck x c u) := by
  unfold Machine.latencyCheck
  dsimp only
  repeat' split
  · exact h
  · exact h.onSide.raise
  · exact h.onSide
  · exact h.onSide.gone
  · exact h.onSide

theorem sideCheck (h : SidesOnly s u) {c : Byte} {n crc : Word16} : SidesOnly s (sideCheck x c n crc u) := by
  unfold Machine.sideCheck lookUpEcho
  dsimp only
  repeat' split
  · exact h.gone.count
  · exact h.gone
  · exact h.gone.onSide.tagCheck.latencyCheck
  · exact h.raise

theorem echoArrived (h : SidesOnly s u) {c : Byte} {n crc : Word16} : SidesOnly s (echoArrived x c n crc u) := by
  unfold Machine.echoArrived
  dsimp only
  split
  · exact h.onSide
  · exact h.onSide.onSide.gone.sideCheck.settle

theorem echoByte (h : SidesOnly s u) {b : Byte} : SidesOnly s (echoByte x b u) := by
  unfold Machine.echoByte
  dsimp only
  repeat' split
  · exact h
  · exact h.onSide
  · exact h.echoArrived

/-! ### Geometry and views -/

theorem overrideSide (h : SidesOnly s u) {f : Geometry → Overrides} : SidesOnly s (overrideSide x f u) := by
  unfold Machine.overrideSide; split
  · exact h
  · exact h.onSide

theorem endInspectSide (h : SidesOnly s u) : SidesOnly s (endInspectSide u x) := by
  unfold Machine.endInspectSide; split
  · exact h.onSide
  · exact h

theorem startSide (h : SidesOnly s u) : SidesOnly s (startSide u x) := h.onSide.setView.submit

theorem startIfOff (h : SidesOnly s u) : SidesOnly s (startIfOff u x) := by
  unfold Machine.startIfOff; split
  · exact h.startSide
  · exact h

theorem startBoth (h : SidesOnly s u) : SidesOnly s (startBoth u) := h.startSide.startSide

theorem removeKind (h : SidesOnly s u) {k : FaultKind} {c : FlagClass} : SidesOnly s (removeKind x c u k) := by
  unfold Machine.removeKind; split
  · exact h.setFault.hand
  · exact h

/-- What each member of a list does to nothing but the sides, the list does. -/
theorem foldl {α : Type} {f : State → α → State} (hf : ∀ v a, SidesOnly v (f v a)) (l : List α)
    (h : SidesOnly s u) : SidesOnly s (l.foldl f u) := by
  induction l generalizing u with
  | nil => exact h
  | cons a l ih => exact ih (h.trans (hf u a))

theorem stopSide (h : SidesOnly s u) : SidesOnly s (stopSide u x) :=
  (foldl (fun v _ => (refl v).removeKind) _ h).setView.onSide.submit

theorem stopIfRunning (h : SidesOnly s u) : SidesOnly s (stopIfRunning u x) := by
  unfold Machine.stopIfRunning; split
  · exact h
  · exact h.stopSide

theorem standbySide (h : SidesOnly s u) : SidesOnly s (standbySide u x) := by
  unfold Machine.standbySide; split
  · exact h.submit
  · exact h.stopSide

theorem restoreSide (h : SidesOnly s u) {selector : Nat} : SidesOnly s (restoreSide selector u x) :=
  foldl (fun v k => by unfold restoreKind; split; exacts [(refl v).setFault.hand, refl v]) _ h

theorem boundSide (h : SidesOnly s u) {b : Window} {m : List (Option Nat)} : SidesOnly s (boundSide x b m u) := h.onSide

theorem levelKind (h : SidesOnly s u) {k : FaultKind} {b a : Bool} : SidesOnly s (levelKind k b a u) := by
  unfold Machine.levelKind
  split
  · exact h.raisePart
  · split
    · exact h.gonePart
    · exact h

end SidesOnly

/-- A sample changes the monitor, then the sides alone. -/
theorem sampleArrived_frame (supply : Nat) (temperature : Int) (s : State) :
    SidesOnly { s with health := sampled supply temperature s.health, freeCount := s.freeCount + 1 }
      (sampleArrived supply temperature s) :=
  (SidesOnly.refl _).levelKind.levelKind.levelKind.levelKind.settle

/-! ## A predicate of each side -/

/-- Each side satisfies a predicate. -/
def Sides (P : Side → SideState → Prop) (s : State) : Prop := ∀ y, P y (s.side y)

/-- A predicate of a side that does not hang on what the supervisor's operations change: the set, the view and the map
as an event leaves them, and the counters. -/
structure Blind (P : Side → SideState → Prop) : Prop where
  faults : ∀ {x d} f, P x d → P x (d.withFaults f)
  settled : ∀ {x d} ts, P x d → P x (settledSide x ts d)
  counters : ∀ {x d} c, P x d → P x { d with counters := c }

namespace Sides

variable {P : Side → SideState → Prop} {s : State} {x : Side}

theorem onSide (h : Sides P s) {f : SideState → SideState} (hf : P x (s.side x) → P x (f (s.side x))) :
    Sides P (s.onSide x f) := by
  intro y
  rw [State.side_onSide_eq]
  split
  · next e => subst e; exact hf (h y)
  · exact h y

theorem setSide (h : Sides P s) {d : SideState} (hd : P x d) : Sides P (s.setSide x d) := by
  intro y
  rw [State.side_setSide_eq]
  split
  · next e => subst e; exact hd
  · exact h y

theorem congr (h : Sides P s) {t : State} (hl : t.left = s.left) (hr : t.right = s.right) : Sides P t := by
  intro y
  cases y with
  | left => rw [State.side_left, hl]; exact h .left
  | right => rw [State.side_right, hr]; exact h .right

theorem both {t : State} (hl : P .left t.left) (hr : P .right t.right) : Sides P t
  | .left => hl
  | .right => hr

theorem emit (h : Sides P s) {o : Output} : Sides P (s.emit o) := h.congr rfl rfl

theorem count (B : Blind P) (h : Sides P s) {f : Counters → Counters} : Sides P (s.count x f) :=
  h.onSide (B.counters _)

theorem raise (B : Blind P) (h : Sides P s) {k : FaultKind} : Sides P (raise x k s) := by
  rw [raise_eq]
  exact (h.setSide (B.faults _ (h x))).congr rfl rfl

theorem gone (B : Blind P) (h : Sides P s) {k : FaultKind} : Sides P (gone x k s) := by
  rw [gone_eq]
  exact (h.setSide (B.faults _ (h x))).congr rfl rfl

theorem setFault (B : Blind P) (h : Sides P s) {k : FaultKind} {m : Member} : Sides P (s.setFault x k m) :=
  h.onSide (B.faults _)

theorem hand (h : Sides P s) {t : Transition} : Sides P (s.hand t) := h.congr rfl rfl

theorem raisePart (B : Blind P) (h : Sides P s) {k : FaultKind} : Sides P (raisePart k s) := by
  rw [raisePart_eq]
  exact both (B.faults _ (h .left)) (B.faults _ (h .right))

theorem gonePart (B : Blind P) (h : Sides P s) {k : FaultKind} : Sides P (gonePart k s) := by
  unfold Machine.gonePart
  split
  · exact ((h.setFault B).setFault B).hand
  · exact h

theorem settle (B : Blind P) (h : Sides P s) : Sides P (settle s) := by
  intro y
  rw [settle_side]
  exact B.settled _ (h y)

theorem dispatch (h : Sides P s) (hc : ∀ c, P x (s.side x) → P x { s.side x with channel := c }) :
    Sides P (dispatch x s) := by
  rw [dispatch_eq]
  exact (h.setSide (hc _ (h x))).congr rfl rfl

theorem submit (h : Sides P s) {t : Transaction} (hc : ∀ c, P x (s.side x) → P x { s.side x with channel := c }) :
    Sides P (submit x t s) := by
  rw [admit_eq]
  exact (h.setSide (hc _ (h x))).congr rfl rfl

theorem foldl {α : Type} {f : State → α → State} (hf : ∀ v a, Sides P v → Sides P (f v a)) (l : List α)
    (h : Sides P s) : Sides P (l.foldl f s) := by
  induction l generalizing s with
  | nil => exact h
  | cons a l ih => exact ih (hf s a h)

theorem fire (B : Blind P) (h : Sides P s) : Sides P (fire x s) := h.emit.gone B

theorem dropLate (B : Blind P) (h : Sides P s) : Sides P (dropLate x s) := (h.count B).raise B

theorem malformed (B : Blind P) (h : Sides P s) : Sides P (malformed x s) := ((h.count B).raise B).gone B

theorem frozenCheck (B : Blind P) (h : Sides P s) {f : FrameInProgress} {p : Port} :
    Sides P (frozenCheck x f p s) := by
  unfold Machine.frozenCheck
  repeat' split
  · exact h.raise B
  · exact h
  · exact h.gone B

theorem levelKind (B : Blind P) (h : Sides P s) {k : FaultKind} {before now : Bool} :
    Sides P (levelKind k before now s) := by
  unfold Machine.levelKind
  repeat' split
  · exact h.raisePart B
  · exact h.gonePart B
  · exact h

theorem repeatCheck (B : Blind P) (h : Sides P s) {o : RingOutcome} : Sides P (repeatCheck x o s) := by
  unfold Machine.repeatCheck
  repeat' split
  · exact h.gone B
  · exact h.raise B
  · exact h
  · exact h

theorem sampleArrived (B : Blind P) (h : Sides P s) {supply : Nat} {temperature : Int} :
    Sides P (sampleArrived supply temperature s) :=
  (((((h.congr (t := { s with health := sampled supply temperature s.health, freeCount := s.freeCount + 1 })
    rfl rfl).levelKind B).levelKind B).levelKind B).levelKind B).settle B

theorem restoreSide (B : Blind P) (h : Sides P s) {selector : Nat} : Sides P (restoreSide selector s x) :=
  foldl (fun v k hv => by unfold restoreKind; split; exacts [(hv.setFault B).hand, hv]) _ h

end Sides

end Sys2Proof.Machine

/-! # What the owning rule of a request can leave

One lemma for each request that changes anything: the state as it was, where the request is refused, or the one effect
that the rule has. -/

namespace Sys2Proof.Machine

theorem ownStartView_cases (p : List Byte) (s : State) :
    (ownStartView p s).state = s ∨ ∃ sides : List Side, sides.Nodup ∧
      (∀ x ∈ sides, (s.side x).sup.view = .off) ∧ (ownStartView p s).state = sides.foldl startSide s := by
  unfold ownStartView
  split
  · exact .inl rfl
  · next sides hs =>
    split
    · exact .inl rfl
    · next hv =>
      refine .inr ⟨sides, ?_, ?_, rfl⟩
      · unfold namedSides at hs
        split at hs <;> simp only [Option.some.injEq, reduceCtorEq] at hs <;> subst hs <;> decide
      · simpa using hv

theorem ownStopView_cases (p : List Byte) (s : State) :
    (ownStopView p s).state = s ∨ ∃ sides : List Side,
      (ownStopView p s).state = settle (sides.foldl stopIfRunning s) := by
  unfold ownStopView
  split
  · exact .inl rfl
  · next sides _ => exact .inr ⟨sides, rfl⟩

theorem ownSetTiming_cases (p : List Byte) (s : State) :
    (ownSetTiming p s).state = s ∨ ∃ t, s.left.sup.view = .off ∧ s.right.sup.view = .off ∧
      (ownSetTiming p s).state = { s with timing := clampTiming t } := by
  unfold ownSetTiming
  split
  · exact .inl rfl
  · next t _ =>
    split
    · exact .inl rfl
    · next hv =>
      simp only [ne_eq, not_or, Decidable.not_not] at hv
      exact .inr ⟨t, hv.1, hv.2, rfl⟩

/-- VEHICLE_STATE: the signals arrive, the overrides of both sides follow, VEHICLE_SIGNAL_STALE may be told gone. -/
theorem ownVehicleState_cases (p : List Byte) (s : State) :
    (ownVehicleState p s).state = s ∨ ∃ r signals f g, (ownVehicleState p s).state = settle (clearSignalStale r
      (overrideSide .right g (overrideSide .left f { s with signals := signals }))) := by
  unfold ownVehicleState
  dsimp only
  split
  · exact .inl rfl
  · exact .inr ⟨_, _, _, _, rfl⟩

theorem ownAdjustView_cases (p : List Byte) (s : State) :
    (ownAdjustView p s).state = s ∨ ∃ x wide w dx dy, w = baseWindow wide (s.side x).geometry ∧
      (ownAdjustView p s).state = s.onSide x fun d =>
        { d with geometry := setBase x wide (adjusted (s.side x).geometry.bounds w dx dy) d.geometry } := by
  unfold ownAdjustView
  split
  · exact .inr ⟨_, _, _, _, _, rfl, rfl⟩
  · exact .inl rfl

theorem ownInspect_cases (p : List Byte) (s : State) :
    (ownInspect p s).state = s ∨ ∃ x preset seconds, (s.side x).sup.view ≠ .off ∧
      (ownInspect p s).state = inspectSide x preset seconds s := by
  unfold ownInspect
  split
  · split
    · exact .inl rfl
    · next hv => exact .inr ⟨_, _, _, hv, rfl⟩
  · exact .inl rfl

theorem ownEndInspect_cases (p : List Byte) (s : State) :
    (ownEndInspect p s).state = s ∨ ∃ sides : List Side,
      (ownEndInspect p s).state = sides.foldl endInspectSide s := by
  unfold ownEndInspect
  split
  · exact .inl rfl
  · exact .inr ⟨_, rfl⟩

theorem ownSetGlare_cases (p : List Byte) (s : State) :
    (ownSetGlare p s).state = s ∨ ∃ (g : GlareSettings) (sides : List Side),
      (ownSetGlare p s).state = sides.foldl (setGlareSettings (clampGlare g)) s := by
  unfold ownSetGlare
  split
  · exact .inl rfl
  · exact .inr ⟨_, _, rfl⟩

theorem ownSetTone_cases (p : List Byte) (s : State) :
    (ownSetTone p s).state = s ∨ ∃ (key : Nat) (sides : List Side),
      (ownSetTone p s).state = sides.foldl (setTone (correctKey key) (correctTable (toneEntries p))) s := by
  unfold ownSetTone
  split
  · exact .inl rfl
  · exact .inr ⟨_, _, rfl⟩

theorem ownSetExposureLimits_cases (p : List Byte) (s : State) :
    (ownSetExposureLimits p s).state = s ∨ ∃ (l : ExposureLimits) (sides : List Side),
      (ownSetExposureLimits p s).state = sides.foldl (setLimits (correctLimits l)) s := by
  unfold ownSetExposureLimits
  split
  · exact .inl rfl
  · exact .inr ⟨_, _, rfl⟩

theorem ownReadGlare_state (p : List Byte) (s : State) : (ownReadGlare p s).state = s := by
  unfold ownReadGlare; split <;> rfl

theorem ownReadCounters_cases (p : List Byte) (s : State) :
    (ownReadCounters p s).state = s ∨ ∃ sides : List Side,
      (ownReadCounters p s).state = sides.foldl clearCounters s := by
  unfold ownReadCounters
  split
  · next sides _ _ =>
    by_cases h : uField p 1 1 = 1
    · exact .inr ⟨sides, by simp [answerWith, h]⟩
    · exact .inl (by simp [answerWith, h])
  · exact .inl rfl

theorem ownRestoreView_cases (p : List Byte) (s : State) :
    (ownRestoreView p s).state = s ∨ ∃ (selector : Nat) (sides : List Side), (ownRestoreView p s).state =
      settle (rereadIfNamed selector sides (sides.foldl (restoreSide selector) s)) := by
  unfold ownRestoreView
  split
  · exact .inr ⟨_, _, rfl⟩
  · exact .inl rfl

theorem ownStoreUnlock_cases (s : State) :
    (ownStoreUnlock s).state = s ∨ (ownStoreUnlock s).state = { s with store := { s.store with latch := true } } := by
  unfold ownStoreUnlock
  split
  · exact .inl rfl
  · exact .inr rfl

theorem ownStoreRead_state (p : List Byte) (s : State) : (ownStoreRead p s).state = s := by
  unfold ownStoreRead
  dsimp only
  split
  · rfl
  · split <;> rfl

theorem ownStoreProtect_cases (p : List Byte) (s : State) :
    (ownStoreProtect p s).state = s ∨ ∃ b,
      (ownStoreProtect p s).state = { s with store := { s.store with boundary := b } } := by
  unfold ownStoreProtect
  split
  · exact .inl rfl
  · exact .inr ⟨_, rfl⟩

/-- The four modifying requests: refused with BAD_VALUE, or what R188 makes of them. -/
theorem ownStoreWrite_cases (p : List Byte) (s : State) :
    (ownStoreWrite p s).state = s ∨ ∃ shut w, (ownStoreWrite p s).state = (modify shut w s).state := by
  unfold ownStoreWrite
  dsimp only
  split
  · exact .inl rfl
  · exact .inr ⟨_, _, rfl⟩

theorem ownStoreErase_cases (p : List Byte) (s : State) :
    (ownStoreErase p s).state = s ∨ ∃ shut w, (ownStoreErase p s).state = (modify shut w s).state := by
  unfold ownStoreErase
  dsimp only
  split
  · exact .inl rfl
  · exact .inr ⟨_, _, rfl⟩

theorem ownSaveProfile_cases (p : List Byte) (s : State) :
    (ownSaveProfile p s).state = s ∨ ∃ shut w, (ownSaveProfile p s).state = (modify shut w s).state := by
  unfold ownSaveProfile
  dsimp only
  split
  · exact .inl rfl
  · exact .inr ⟨_, _, rfl⟩

theorem ownLoadProfile_cases (p : List Byte) (s : State) :
    (ownLoadProfile p s).state = s ∨ ∃ bytes,
      (ownLoadProfile p s).state = applyProfile (correctProfile s (readProfile bytes)) s := by
  unfold ownLoadProfile
  dsimp only
  split
  · exact .inl rfl
  · split
    · exact .inl rfl
    · split
      · exact .inl rfl
      · exact .inr ⟨_, rfl⟩

theorem ownReset_cases (tag : Byte) (s : State) :
    (ownReset tag s).state = { s with link := { s.link with resetPending := some tag } } ∨
      (ownReset tag s).state = volatileReset s := by
  unfold ownReset
  split
  · exact .inl rfl
  · exact .inr rfl

/-- Outside ACTIVE no request is taken but STATUS, IDENTIFY, WAKE and RESET (R178). -/
theorem inRequestSet_active {s : State} {k : RequestKind} (h : inRequestSet s k = true)
    (hk : k ≠ .status ∧ k ≠ .identify ∧ k ≠ .wake ∧ k ≠ .reset) : s.link.part = .active := by
  obtain ⟨h1, h2, h3, h4⟩ := hk
  unfold inRequestSet at h
  split at h
  · simp [h1] at h
  · split at h
    · next ha => simpa using ha
    · simp [h1, h2, h3, h4] at h

/-! ## Clamped windows (R95) -/

/-- Clamping into bounds, for the largest size and in one direction: an even interval of at least 2, inside. -/
theorem clampInterval {low limit : Nat} (origin : Int) (size : Nat) (hl : low % 2 = 0) (hm : limit % 2 = 0)
    (h2 : 2 ≤ limit) :
    2 ≤ evenDown (clampSize limit size) ∧
      low ≤ evenDown (clampOrigin low limit origin (clampSize limit size)).toNat ∧
      evenDown (clampOrigin low limit origin (clampSize limit size)).toNat + evenDown (clampSize limit size) ≤
        low + limit := by
  have h1 : 2 ≤ clampSize limit size ∧ clampSize limit size ≤ limit := by unfold clampSize; omega
  generalize clampSize limit size = n at h1
  unfold clampOrigin evenDown
  split
  · omega
  · split <;> omega

theorem evenDown_even (n : Nat) : evenDown n % 2 = 0 := by unfold evenDown; omega

theorem validWindow_iff (w : Window) : validWindow w = true ↔ (w.x % 2 = 0 ∧ w.y % 2 = 0 ∧ w.w % 2 = 0 ∧
    w.h % 2 = 0) ∧ 2 ≤ w.w ∧ 2 ≤ w.h ∧ w.x + w.w ≤ 1920 ∧ w.y + w.h ≤ 1080 := by
  simp [validWindow, and_assoc]

theorem inside_iff (b w : Window) : inside b w = true ↔
    b.x ≤ w.x ∧ w.x + w.w ≤ b.x + b.w ∧ b.y ≤ w.y ∧ w.y + w.h ≤ b.y + b.h := by
  simp [inside, and_assoc]

/-- A window clamped into valid bounds is valid and lies inside them. -/
theorem clampAt_sound {b : Window} (hb : validWindow b = true) (x y : Int) (w h : Nat) :
    validWindow (clampAt b x y w h) = true ∧ inside b (clampAt b x y w h) = true := by
  obtain ⟨⟨bx, bY, bw, bh⟩, bw2, bh2, bxw, byh⟩ := (validWindow_iff b).1 hb
  obtain ⟨c1, c2, c3⟩ := clampInterval x w bx bw bw2
  obtain ⟨e1, e2, e3⟩ := clampInterval y h bY bh bh2
  exact ⟨(validWindow_iff _).2 ⟨⟨evenDown_even _, evenDown_even _, evenDown_even _, evenDown_even _⟩, c1, e1,
    c3.trans bxw, e3.trans byh⟩, (inside_iff _ _).2 ⟨c2, c3, e2, e3⟩⟩

theorem clampWindow_sound {b : Window} (hb : validWindow b = true) (w : Window) :
    validWindow (clampWindow b w) = true ∧ inside b (clampWindow b w) = true := clampAt_sound hb _ _ _ _

theorem fullArea_valid : validWindow fullArea = true := by decide

theorem areaWindow_valid (w : Window) : validWindow (areaWindow w) = true :=
  (clampWindow_sound fullArea_valid _).1

/-! ## The calibration read and the load at INIT -/

/-- A state with bounds and marker rows of both sides and a part code taken (R94, R180). -/
def State.calibrated (bl br : Window) (ml mr : List (Option Nat)) (c : Word16) (s : State) : State :=
  keepPartCode c (boundSide .right br mr (boundSide .left bl ml s))

/-- The read at INIT sets valid bounds, whether or not it raises CALIBRATION_DAMAGED first. -/
theorem initCalibration_cases (s : State) : ∃ bl br ml mr c u, validWindow bl = true ∧ validWindow br = true ∧
    (u = s ∨ u = raisePart .calibrationDamaged s) ∧ initCalibration s = State.calibrated bl br ml mr c u := by
  unfold initCalibration
  dsimp only
  split
  · exact ⟨_, _, _, _, _, _, areaWindow_valid _, areaWindow_valid _, .inl rfl, rfl⟩
  · exact ⟨_, _, _, _, _, _, fullArea_valid, fullArea_valid, .inr rfl, rfl⟩

/-- The re-read sets valid bounds, whether or not it removes CALIBRATION_DAMAGED first. -/
theorem rereadIfNamed_cases (selector : Nat) (sides : List Side) (s : State) : rereadIfNamed selector sides s = s ∨
    ∃ bl br ml mr c u, validWindow bl = true ∧ validWindow br = true ∧ (u = s ∨ u = removeDamaged s) ∧
      rereadIfNamed selector sides s = State.calibrated bl br ml mr c u := by
  unfold rereadIfNamed
  split
  · unfold reread
    dsimp only
    split
    · exact .inr ⟨_, _, _, _, _, _, areaWindow_valid _, areaWindow_valid _, .inr rfl, rfl⟩
    · exact .inr ⟨_, _, _, _, _, _, fullArea_valid, fullArea_valid, .inl rfl, rfl⟩
  · exact .inl rfl

/-- A state with the settings of a profile in force as the load at INIT puts them (R42, R93, R199). -/
def State.loaded (p : Profile) (s : State) : State :=
  let t := applyProfile p s
  { t with left := settleSide t.left, right := settleSide t.right }

/-- The load at INIT is that of its profile; with the profile named, no proof unfolds how its bytes are read. -/
theorem loadInitProfile_eq (s : State) : loadInitProfile s = s.loaded (initProfile s) := rfl

/-! ## Starts and stops as equations -/

/-- A start of a side that is OFF. -/
theorem startSide_eq {s : State} {x : Side} (hv : (s.side x).sup.view = .off) :
    startSide s x = submit x (.streamOn (s.syncMode x) s.timing.framePeriod)
      (s.setSide x { startBlocks x s.now s.timing s.signals (s.side x) with
        sup := { (s.side x).sup with
          view := startView (s.faults x),
          startTimer := some (after s.now ((s.side x).sup.startTimeout * 1000)) } }) := by
  unfold startSide
  rw [setView_eq]
  cases x
  · have hv' : s.left.sup.view = .off := hv
    simp [State.onSide, startBlocks, startTriggers, hv', State.faults]
  · have hv' : s.right.sup.view = .off := hv
    simp [State.onSide, startBlocks, startTriggers, hv', State.faults]

/-- A set without the kinds of a list. -/
def FaultSet.without (f : FaultSet) (l : List FaultKind) : FaultSet :=
  l.foldl (fun f k => f.set k .absent) f

theorem FaultSet.without_get (l : List FaultKind) (f : FaultSet) (k : FaultKind) :
    (f.without l).get k = if k ∈ l then .absent else f.get k := by
  induction l generalizing f with
  | nil => simp [without]
  | cons j l ih =>
    rw [without, List.foldl_cons, ← without, ih, FaultSet.get_set_eq]
    by_cases hk : k ∈ l <;> simp [hk]

/-- The CLEARED transitions of the kinds of a list that stand in a set. -/
def removals (x : Side) (flag : FlagClass) (f : FaultSet) (l : List FaultKind) : List Transition :=
  (l.filter f.stands).map fun k => ⟨k, .cleared, recordScope k x, flag⟩

theorem removeKind_eq (x : Side) (flag : FlagClass) (s : State) (k : FaultKind) :
    removeKind x flag s k =
      { s.setSide x ((s.side x).withFaults ((s.faults x).set k .absent)) with
        handed := s.handed ++ removals x flag (s.faults x) [k] } := by
  unfold removeKind removals
  split
  · next h => simp only [List.filter_cons, h, if_true]; cases x <;> rfl
  · next h =>
    have ha : (s.faults x).get k = .absent := by simpa [FaultSet.stands] using h
    have hset : (s.faults x).set k .absent = s.faults x := by rw [← ha, FaultSet.set_get_self]
    simp only [List.filter_cons, h, hset]
    cases x <;> simp [State.faults, SideState.withFaults]

/-- Distinct kinds removed one after the other. -/
theorem removeKinds_eq (x : Side) (flag : FlagClass) {l : List FaultKind} (hl : l.Nodup) (s : State) :
    l.foldl (removeKind x flag) s =
      { s.setSide x ((s.side x).withFaults ((s.faults x).without l)) with
        handed := s.handed ++ removals x flag (s.faults x) l } := by
  induction l generalizing s with
  | nil => cases x <;> simp [FaultSet.without, removals, State.faults, SideState.withFaults]
  | cons k l ih =>
    obtain ⟨hk, hl⟩ := List.nodup_cons.1 hl
    have hrest : removals x flag ((s.faults x).set k .absent) l = removals x flag (s.faults x) l := by
      unfold removals
      rw [List.filter_congr fun j hj => ?_]
      have hne : j ≠ k := fun e => hk (e ▸ hj)
      simp only [FaultSet.stands, FaultSet.get_set_of_ne _ _ hne]
    have happ : removals x flag (s.faults x) (k :: l) =
        removals x flag (s.faults x) [k] ++ removals x flag (s.faults x) l := by
      unfold removals
      rw [← List.map_append, ← List.filter_append, List.singleton_append]
    rw [List.foldl_cons, ih hl, removeKind_eq, happ, ← hrest]
    cases x <;>
      simp [FaultSet.without, State.faults, SideState.withFaults, List.append_assoc]

/-- A side as a stop leaves it, but for its channel (R149). -/
def stoppedBlocks (x : Side) (f : FaultSet) (d : SideState) : SideState :=
  { stopBlocks x d with
    sup := { d.sup with view := .off, startTimer := none, faults := f },
    gain := if d.sup.view = .normal then ⟨unityGains, d.gain.version + 1⟩ else d.gain }

theorem removedAtStop_nodup : (allKinds.filter removedAtStop).Nodup := by decide

/-- The view of a side made OFF; a side that leaves NORMAL publishes an all-4,096 map (R78). -/
theorem setView_off (x : Side) (s : State) :
    setView x .off s = s.setSide x
      { s.side x with
        sup := { (s.side x).sup with view := .off },
        gain := if (s.side x).sup.view = .normal then ⟨unityGains, (s.side x).gain.version + 1⟩
          else (s.side x).gain } := by
  rw [setView_eq]
  by_cases h : (s.side x).sup.view = .normal <;> simp [h]

/-- A stop of a side. -/
theorem stopSide_eq (s : State) (x : Side) :
    stopSide s x = submit x .streamOff
      { s.setSide x (stoppedBlocks x ((s.faults x).without (allKinds.filter removedAtStop)) (s.side x)) with
        handed := s.handed ++ removals x .plain (s.faults x) (allKinds.filter removedAtStop) } := by
  unfold stopSide
  dsimp only
  rw [removeKinds_eq x .plain removedAtStop_nodup, setView_off]
  cases x <;> rfl

/-- A law that no change of the store's latch, boundary or operation in flight concerns is kept by a modifying
request. -/
theorem modify_keeps {L : State → Prop} {s : State} (hs : L s) (hu : L (useLatch s))
    (ho : ∀ w, L (startOperation w (useLatch s))) (shut : Bool) (w : StoreWork) : L (modify shut w s).state := by
  obtain e | e | ⟨e, -⟩ := modify_cases shut w s
  · rw [e]; exact hs
  · rw [e]; exact hu
  · rw [e]; exact ho w

end Sys2Proof.Machine

/-! # The sample schedule: every step keeps the law of R163 -/

namespace Sys2Proof.Machine

/-- The law hangs on part time, the next sample and the power alone. -/
theorem SampleLaw.congr {s t : State} (h : SampleLaw s) (hn : t.now = s.now)
    (hh : t.health.nextSample = s.health.nextSample) (hp : t.powered = s.powered) : SampleLaw t := by
  unfold SampleLaw
  rw [hn, hh, hp]
  exact h

theorem SampleLaw.sidesOnly {s t : State} (h : SampleLaw s) (f : SidesOnly s t) : SampleLaw t :=
  h.congr f.now (congrArg _ f.health) f.powered

/-- A reset puts the next sample 1,000 µs ahead. -/
theorem sampleLaw_volatileReset (s : State) : SampleLaw (volatileReset s) := by
  intro _
  change duration State.reset.health.nextSample State.reset.now ≤ 1000
  decide

theorem duration_eq (a b : PartTime) : duration a b = (2 ^ 48 + a.toNat - b.toNat) % 2 ^ 48 := by
  unfold duration
  rw [BitVec.toNat_sub]
  congr 1
  have := b.isLt
  omega

/-- With no sample due, a microsecond brings the next one nearer. -/
theorem sampleLaw_tick {s : State} (hd : dueEvents s = []) (h : SampleLaw s) : SampleLaw (tick s) := by
  intro hp
  have hp' : s.powered = true := hp
  have hlate : sampleDue s = false := by
    by_contra hc
    have hc : sampleDue s = true := by simpa using hc
    simp [dueEvents, partDue, offer, hp', hc] at hd
  have hahead : 1 ≤ duration s.health.nextSample s.now := by
    have hl : later s.health.nextSample s.now = true := by simpa [sampleDue, due] using hlate
    simp only [later, Bool.and_eq_true, decide_eq_true_eq] at hl
    exact hl.1
  have hlaw := h hp'
  change duration s.health.nextSample (s.now + 1) ≤ 1000
  rw [duration_eq] at hlaw hahead ⊢
  have h1 : (s.now + 1).toNat = (s.now.toNat + 1) % 2 ^ 48 := by simp [BitVec.toNat_add]
  have := s.now.isLt
  have := s.health.nextSample.isLt
  omega

/-- The sample that is due has part time exactly at its time, and the next is 1,000 µs later. -/
theorem sampleLaw_sampleArrived {s : State} (supply : Nat) (temperature : Int) (hp : s.powered = true)
    (hd : sampleDue s = true) (h : SampleLaw s) : SampleLaw (sampleArrived supply temperature s) := by
  have hnow : duration s.health.nextSample s.now = 0 := by
    have hlaw := h hp
    simp only [sampleDue, due, later, Bool.not_eq_true', Bool.and_eq_false_iff, decide_eq_false_iff_not] at hd
    omega
  have hnext : SampleLaw { s with health := sampled supply temperature s.health, freeCount := s.freeCount + 1 } := by
    intro _
    change duration (sampled supply temperature s.health).nextSample s.now ≤ 1000
    rw [sampled_nextSample]
    rw [duration_eq] at hnow ⊢
    have h1 : (after s.health.nextSample 1000).toNat = (s.health.nextSample.toNat + 1000) % 2 ^ 48 := by
      simp [after, BitVec.toNat_add]
    have := s.now.isLt
    have := s.health.nextSample.isLt
    omega
  exact hnext.sidesOnly (sampleArrived_frame supply temperature s)

theorem sampleLaw_deferredReset {s : State} (h : SampleLaw s) : SampleLaw (deferredReset s) := by
  unfold deferredReset
  split
  · exact h
  · split
    · exact h
    · unfold makeReset
      rw [placeReply_eq]
      exact (sampleLaw_volatileReset s).congr rfl rfl rfl

theorem sampleLaw_endQuiescing {s : State} (h : SampleLaw s) : SampleLaw (endQuiescing s) := by
  rw [endQuiescing_eq]
  exact h.congr rfl rfl rfl

theorem sampleLaw_calibrated {s : State} (bl br : Window) (ml mr : List (Option Nat)) (c : Word16) (h : SampleLaw s) :
    SampleLaw (s.calibrated bl br ml mr c) :=
  (h.sidesOnly (SidesOnly.refl s).boundSide.boundSide).congr rfl rfl rfl

theorem sampleLaw_initCalibration {s : State} (h : SampleLaw s) : SampleLaw (initCalibration s) := by
  obtain ⟨bl, br, ml, mr, c, u, -, -, hu, e⟩ := initCalibration_cases s
  rw [e]
  obtain rfl | rfl := hu
  · exact sampleLaw_calibrated _ _ _ _ _ h
  · exact sampleLaw_calibrated _ _ _ _ _ (h.sidesOnly (SidesOnly.refl s).raisePart)

theorem sampleLaw_loaded {s : State} (p : Profile) (h : SampleLaw s) : SampleLaw (s.loaded p) :=
  h.congr rfl rfl rfl

theorem sampleLaw_loadInitProfile {s : State} (h : SampleLaw s) : SampleLaw (loadInitProfile s) := by
  rw [loadInitProfile_eq]
  exact sampleLaw_loaded _ h

theorem sampleLaw_setPart {s : State} (p : PartState) (h : SampleLaw s) : SampleLaw (setPart p s) :=
  h.congr rfl rfl rfl

theorem sampleLaw_initCompleted {s : State} (wakeHigh : Bool) (h : SampleLaw s) :
    SampleLaw (initCompleted wakeHigh s) := by
  have hs := sampleLaw_setPart .active (sampleLaw_loadInitProfile (sampleLaw_initCalibration
    (h.congr (t := setWakeLine wakeHigh { s with link := { s.link with initTimer := none } }) rfl rfl rfl)))
  unfold initCompleted streamOffBoth
  dsimp only
  split
  · exact hs.sidesOnly (SidesOnly.refl _).startBoth.settle
  · exact hs.sidesOnly (SidesOnly.refl _).submit.submit.settle

theorem sampleLaw_restoreView (p : List Byte) {s : State} (h : SampleLaw s) : SampleLaw (ownRestoreView p s).state := by
  obtain e | ⟨selector, sides, e⟩ := ownRestoreView_cases p s
  · rw [e]; exact h
  · rw [e]
    have hr : SampleLaw (sides.foldl (restoreSide selector) s) :=
      h.sidesOnly (SidesOnly.foldl (fun v _ => (SidesOnly.refl v).restoreSide) _ (SidesOnly.refl s))
    refine SampleLaw.sidesOnly ?_ (SidesOnly.refl _).settle
    obtain e | ⟨bl, br, ml, mr, c, u, -, -, hu, e⟩ :=
      rereadIfNamed_cases selector sides (sides.foldl (restoreSide selector) s)
    · rw [e]; exact hr
    · rw [e]
      obtain rfl | rfl := hu
      · exact sampleLaw_calibrated _ _ _ _ _ hr
      · exact sampleLaw_calibrated _ _ _ _ _ (hr.sidesOnly (SidesOnly.refl _).setFault.setFault.hand)

theorem sampleLaw_freshness (sig : Signal) {s : State} (h : SampleLaw s) : SampleLaw (freshnessExpired sig s) := by
  have hm : SampleLaw { s with signals := makeStale sig s.signals } := h.congr rfl rfl rfl
  unfold freshnessExpired
  dsimp only
  split
  · exact hm.sidesOnly (SidesOnly.refl _).overrideSide.overrideSide.raisePart.settle
  · exact hm.sidesOnly (SidesOnly.refl _).overrideSide.overrideSide.settle

theorem sampleLaw_vehicleState (p : List Byte) {s : State} (h : SampleLaw s) :
    SampleLaw (ownVehicleState p s).state := by
  obtain e | ⟨r, signals, f, g, e⟩ := ownVehicleState_cases p s
  · rw [e]; exact h
  · rw [e]
    have hm : SampleLaw { s with signals := signals } := h.congr rfl rfl rfl
    unfold clearSignalStale
    split
    · exact hm.sidesOnly (SidesOnly.refl _).overrideSide.overrideSide.gonePart.settle
    · exact hm.sidesOnly (SidesOnly.refl _).overrideSide.overrideSide.settle

theorem sampleLaw_wakeExpired {s : State} (h : SampleLaw s) : SampleLaw (wakeExpired s) := by
  have hl : SampleLaw { s with link := { s.link with part := .active, wakeTimer := none, pendingWake := none } } :=
    h.congr rfl rfl rfl
  unfold wakeExpired
  dsimp only
  split
  · exact hl.sidesOnly (SidesOnly.refl _).startBoth
  · exact hl

theorem sampleLaw_wakeLineRises {s : State} (h : SampleLaw s) : SampleLaw (wakeLineRises s) := by
  have hl : SampleLaw (setWakeLine true s) := h.congr rfl rfl rfl
  unfold wakeLineRises wakeEdge
  dsimp only
  repeat' split
  · exact hl
  · exact hl
  · exact hl.sidesOnly (SidesOnly.refl _).startIfOff.startIfOff
  · exact hl.congr rfl rfl rfl
  · exact hl.congr rfl rfl rfl
  · exact hl.congr rfl rfl rfl

theorem sampleLaw_own (k : RequestKind) (tag : Byte) (p : List Byte) {s : State} (h : SampleLaw s) :
    SampleLaw (ownerOf k tag p s).state := by
  cases k with
  | status => exact h
  | identify => exact h
  | readGlare => exact (ownReadGlare_state p s).symm ▸ h
  | storeRead => exact (ownStoreRead_state p s).symm ▸ h
  | readHealth => exact h.congr rfl rfl rfl
  | fetchReports => exact h.congr rfl rfl rfl
  | startView =>
    obtain e | ⟨sides, -, -, e⟩ := ownStartView_cases p s
    · exact e.symm ▸ h
    · exact e.symm ▸ h.sidesOnly (SidesOnly.foldl (fun v _ => (SidesOnly.refl v).startSide) _ (SidesOnly.refl s))
  | stopView =>
    obtain e | ⟨sides, e⟩ := ownStopView_cases p s
    · exact e.symm ▸ h
    · exact e.symm ▸
        h.sidesOnly (SidesOnly.foldl (fun v _ => (SidesOnly.refl v).stopIfRunning) _ (SidesOnly.refl s)).settle
  | setTiming =>
    obtain e | ⟨t, -, -, e⟩ := ownSetTiming_cases p s
    · exact e.symm ▸ h
    · exact e.symm ▸ h.congr rfl rfl rfl
  | vehicleState => exact sampleLaw_vehicleState p h
  | adjustView =>
    obtain e | ⟨x, _, _, _, _, -, e⟩ := ownAdjustView_cases p s
    · exact e.symm ▸ h
    · exact e.symm ▸ h.sidesOnly (SidesOnly.refl s).onSide
  | inspect =>
    obtain e | ⟨x, _, _, -, e⟩ := ownInspect_cases p s
    · exact e.symm ▸ h
    · exact e.symm ▸ h.sidesOnly (SidesOnly.refl s).onSide
  | endInspect =>
    obtain e | ⟨sides, e⟩ := ownEndInspect_cases p s
    · exact e.symm ▸ h
    · exact e.symm ▸
        h.sidesOnly (SidesOnly.foldl (fun v _ => (SidesOnly.refl v).endInspectSide) _ (SidesOnly.refl s))
  | setGlare =>
    obtain e | ⟨_, sides, e⟩ := ownSetGlare_cases p s
    · exact e.symm ▸ h
    · exact e.symm ▸ h.sidesOnly (SidesOnly.foldl (fun v _ => (SidesOnly.refl v).onSide) _ (SidesOnly.refl s))
  | setTone =>
    obtain e | ⟨_, sides, e⟩ := ownSetTone_cases p s
    · exact e.symm ▸ h
    · exact e.symm ▸ h.sidesOnly (SidesOnly.foldl (fun v _ => (SidesOnly.refl v).onSide) _ (SidesOnly.refl s))
  | setExposureLimits =>
    obtain e | ⟨_, sides, e⟩ := ownSetExposureLimits_cases p s
    · exact e.symm ▸ h
    · exact e.symm ▸ h.sidesOnly (SidesOnly.foldl (fun v _ => (SidesOnly.refl v).onSide) _ (SidesOnly.refl s))
  | readCounters =>
    obtain e | ⟨sides, e⟩ := ownReadCounters_cases p s
    · exact e.symm ▸ h
    · exact e.symm ▸ h.sidesOnly (SidesOnly.foldl (fun v _ => (SidesOnly.refl v).onSide) _ (SidesOnly.refl s))
  | restoreView => exact sampleLaw_restoreView p h
  | storeUnlock =>
    obtain e | e := ownStoreUnlock_cases s
    · exact e.symm ▸ h
    · exact e.symm ▸ h.congr rfl rfl rfl
  | storeWrite =>
    obtain e | ⟨shut, w, e⟩ := ownStoreWrite_cases p s
    · exact e.symm ▸ h
    · exact e.symm ▸ modify_keeps h (h.congr rfl rfl rfl) (fun _ => h.congr rfl rfl rfl) shut w
  | storeErase =>
    obtain e | ⟨shut, w, e⟩ := ownStoreErase_cases p s
    · exact e.symm ▸ h
    · exact e.symm ▸ modify_keeps h (h.congr rfl rfl rfl) (fun _ => h.congr rfl rfl rfl) shut w
  | storeLockFactory => exact modify_keeps h (h.congr rfl rfl rfl) (fun _ => h.congr rfl rfl rfl) _ _
  | saveProfile =>
    obtain e | ⟨shut, w, e⟩ := ownSaveProfile_cases p s
    · exact e.symm ▸ h
    · exact e.symm ▸ modify_keeps h (h.congr rfl rfl rfl) (fun _ => h.congr rfl rfl rfl) shut w
  | storeProtect =>
    obtain e | ⟨b, e⟩ := ownStoreProtect_cases p s
    · exact e.symm ▸ h
    · exact e.symm ▸ h.congr rfl rfl rfl
  | loadProfile =>
    obtain e | ⟨q, e⟩ := ownLoadProfile_cases p s
    · exact e.symm ▸ h
    · exact e.symm ▸ h.congr rfl rfl rfl
  | standby =>
    exact (SampleLaw.congr (t := setPart .quiescing (standbySide (standbySide s .left) .right))
      (h.sidesOnly (SidesOnly.refl s).standbySide.standbySide) rfl rfl rfl).sidesOnly (SidesOnly.refl _).settle
  | wake =>
    change SampleLaw (wakeRequested s)
    unfold wakeRequested
    repeat' split
    all_goals exact h.congr rfl rfl rfl
  | reset =>
    obtain e | e := ownReset_cases tag s
    · exact e.symm ▸ h.congr rfl rfl rfl
    · exact e.symm ▸ sampleLaw_volatileReset s

/-- Every command keeps the sample schedule. -/
theorem sampleLaw_kept : Kept SampleLaw where
  frame _ _ _ _ _ _ _ h := h.congr rfl rfl rfl
  tick _ hd h := sampleLaw_tick hd h
  powerOn s _ := sampleLaw_volatileReset { s with powered := true } rfl
  powerLoss _ _ hp := absurd hp Bool.false_ne_true
  initCompletion w _ _ _ h := sampleLaw_initCompleted w h
  vsync _ s _ _ h := h.sidesOnly (SidesOnly.refl s).vsyncExpired
  camTrigger _ s _ _ h := h.sidesOnly (SidesOnly.refl s).camExpired.settle
  frameStart _ _ _ _ s _ h := h.sidesOnly (SidesOnly.refl s).frameStart
  line _ _ s _ h := h.sidesOnly (SidesOnly.refl s).lineArrived
  frameEnd _ s _ h := h.sidesOnly (SidesOnly.refl s).frameEnd
  linkLost _ s _ _ h := h.sidesOnly (SidesOnly.refl s).linkLostExpired
  exposureTaken _ s _ h := h.sidesOnly (SidesOnly.refl s).takeExposure
  glareTaken _ s _ h := h.sidesOnly (SidesOnly.refl s).takeGlare
  dispatch _ s _ h := h.sidesOnly (SidesOnly.refl s).dispatch
  acknowledged _ s _ h := sampleLaw_endQuiescing (h.sidesOnly (SidesOnly.refl s).acknowledged.settle)
  failed _ s _ h := sampleLaw_endQuiescing (h.sidesOnly (SidesOnly.refl s).failed.settle)
  echo _ _ _ _ s _ h := h.sidesOnly (SidesOnly.refl s).echoArrived
  echoByte _ _ s _ h := h.sidesOnly (SidesOnly.refl s).echoByte
  echoTimer _ s _ _ h := h.sidesOnly (SidesOnly.refl s).onSide.raise.settle
  echoIdle _ s _ h := h.sidesOnly (SidesOnly.refl s).onSide
  startTimer _ s _ _ h := h.sidesOnly (SidesOnly.refl s).onSide.raise.settle
  freshness sig _ _ h := sampleLaw_freshness sig h
  inspect _ s _ _ h := h.sidesOnly (SidesOnly.refl s).onSide
  wakeTimer _ _ _ h := sampleLaw_wakeExpired h
  wakeLine _ _ h := sampleLaw_wakeLineRises h
  sample _ _ _ hp hd h := sampleLaw_sampleArrived _ _ hp hd h
  savePhase _ _ _ _ h := h.congr rfl rfl rfl
  storeDone _ _ _ _ h := sampleLaw_endQuiescing (sampleLaw_deferredReset (h.congr rfl rfl rfl))
  deferredReset _ _ h := sampleLaw_deferredReset h
  endQuiescing _ _ h := sampleLaw_endQuiescing h
  own k tag p _ _ _ h := sampleLaw_own k tag p h

end Sys2Proof.Machine

/-! # The events of a running side, for every law of a side

A law of a side looks at its triggers, its hold, its view and its settings; most of what an event changes is none of
these (`SameCore`). For a predicate that is `Free` in this sense, each event of a side is said once to keep it. -/

namespace Sys2Proof.Machine

/-- Two states of a side that agree in what the laws of a side look at: the triggers are armed alike with the same
periods, a held trigger means a frame in progress in the second if it does in the first, the second is not OFF if the
first is not, and the windows and settings are the same. -/
structure SameCore (d e : SideState) : Prop where
  vsync : e.vsync.armed = d.vsync.armed ∧ e.vsync.period = d.vsync.period := by exact ⟨rfl, rfl⟩
  cam : e.cam.armed = d.cam.armed ∧ e.cam.period = d.cam.period := by exact ⟨rfl, rfl⟩
  held : (d.held.isSome = true → d.port.frame.isSome = true) → e.held.isSome = true →
    e.port.frame.isSome = true := by exact id
  view : d.sup.view ≠ .off → e.sup.view ≠ .off := by exact id
  geometry : e.geometry = d.geometry := by rfl
  settings : sideSettings e = sideSettings d := by rfl

/-- A predicate of the side x that hangs on nothing but what `SameCore` names. -/
structure Free (x : Side) (P : Side → SideState → Prop) : Prop extends Blind P where
  core : ∀ {d e}, SameCore d e → P x d → P x e

/-- An event leaves a side OFF exactly if it was (R142, R150). -/
theorem settledView_off {x : Side} {ts : List Transition} {d : SideState} :
    settledView x ts d = .off ↔ d.sup.view = .off := by
  unfold settledView nextView evaluated
  split
  · cases d.sup.view <;> simp <;> repeat' split
    all_goals simp
  · exact Iff.rfl

theorem evaluated_ne_off (f : FaultSet) : evaluated f ≠ .off := by
  unfold evaluated
  split
  · decide
  · split <;> decide

/-- The development of a line changes the ring alone. -/
theorem developLine_eq (row : Nat) (line : List Nat) (d : SideState) :
    developLine row line d = { d with ring := (developLine row line d).ring } := by
  unfold developLine
  repeat' split
  all_goals rfl

/-- What a used line changes: the frame in progress, the collecting set, and the ring as the development leaves it. -/
theorem usedLine_eq (f : FrameInProgress) (codes : List Nat) (d : SideState) :
    usedLine f codes d = { d with
      port := { d.port with frame := some { f with
        lineCount := f.lineCount + 1, signature := signLine f.lineCount codes f.signature } },
      stats := { d.stats with collecting := d.stats.collecting.map (useLine f.lineCount (codes.map decompand)) },
      ring := (developLine f.lineCount (codes.map decompand) d).ring } := by
  unfold usedLine
  dsimp only
  rw [developLine_eq]

/-- A side with its held trigger cleared. -/
def SideState.unheld (d : SideState) : SideState := { d with held := none }

theorem SideState.unheld_of_none {d : SideState} (h : d.held = none) : d.unheld = d := by
  unfold unheld
  rw [← h]

/-- A predicate of each side, of x with its held trigger cleared: what holds between the end of a frame and the release
of the trigger held through it. -/
def ending (x : Side) (P : Side → SideState → Prop) (y : Side) (d : SideState) : Prop :=
  P y (if y = x then d.unheld else d)

namespace Sides

variable {x : Side} {P : Side → SideState → Prop} {s : State}

/-- A change of side x as `SameCore` says. -/
theorem core (F : Free x P) (h : Sides P s) {f : SideState → SideState}
    (hf : SameCore (s.side x) (f (s.side x)) := by exact {}) : Sides P (s.onSide x f) :=
  h.onSide (F.core hf)

theorem submitted (F : Free x P) (h : Sides P s) {t : Transaction} : Sides P (Machine.submit x t s) :=
  h.submit fun _ => F.core {}

theorem setView (F : Free x P) (h : Sides P s) {v : ViewState} (hv : v ≠ .off) : Sides P (setView x v s) := by
  rw [setView_eq]
  exact h.setSide (F.core { view := fun _ => hv } (h x))

/-! ### Capture -/

theorem blind_ending (F : Free x P) : Blind (ending x P) where
  faults {y d} f h := by
    unfold ending at h ⊢
    split
    · next e => rw [if_pos e] at h; exact F.faults f h
    · next e => rw [if_neg e] at h; exact F.faults f h
  settled {y d} ts h := by
    unfold ending at h ⊢
    split
    · next e => rw [if_pos e] at h; exact F.settled ts h
    · next e => rw [if_neg e] at h; exact F.settled ts h
  counters {y d} c h := by
    unfold ending at h ⊢
    split
    · next e => rw [if_pos e] at h; exact F.counters c h
    · next e => rw [if_neg e] at h; exact F.counters c h

/-- A frame given up or passed changes nothing that the laws of a side look at but the frame under a held trigger. -/
theorem endFrame (F : Free x P) (h : Sides P s) {f : SideState → SideState}
    (hf : SameCore (s.side x) (f (s.side x)).unheld) : Sides (ending x P) (s.onSide x f) := by
  intro y
  rw [State.side_onSide_eq, ending]
  split
  · next e => rw [← e] at hf F ⊢; exact F.core hf (h y)
  · exact h y

/-- The release of the held trigger (R7). -/
theorem releaseHold (F : Free x P) (h : Sides (ending x P) s) : Sides P (releaseHold x s) := by
  have hclear : Sides P (clearHold x s) := by
    intro y
    have hy := h y
    rw [clearHold, State.side_onSide_eq]
    unfold ending at hy
    split at hy
    · next e => subst e; rw [if_pos rfl]; exact hy
    · next e => rw [if_neg e]; exact hy
  unfold Machine.releaseHold
  split
  · next hn =>
    have e : clearHold x s = s.setSide x (s.side x).unheld := rfl
    rw [e, SideState.unheld_of_none hn, State.setSide_self] at hclear
    exact hclear
  · split
    · exact hclear.fire F.toBlind
    · exact hclear.dropLate F.toBlind

theorem camExpired (F : Free x P) (h : Sides P s) : Sides P (camExpired x s) := by
  have hadv : Sides P (s.onSide x fun d => { d with cam := d.cam.advance }) := h.core F
  unfold Machine.camExpired
  dsimp only
  split
  · exact hadv
  · split
    · next hf =>
      unfold holdTrigger
      dsimp only
      split
      · refine (hadv.dropLate F.toBlind).core F { held := fun _ _ => ?_ }
        rw [Machine.dropLate, raise_eq]
        cases x <;> exact hf
      · exact hadv.core F { held := fun _ _ => hf }
    · exact hadv.fire F.toBlind

theorem phaseCorrect (F : Free x P) (h : Sides P s) {e : Int} : Sides P (phaseCorrect x e s) := by
  unfold Machine.phaseCorrect
  repeat' split
  · exact h.core F
  · exact h
  · exact h
  · exact (h.core F).submitted F

theorem phaseCount (F : Free x P) (h : Sides P s) {e : Int} : Sides P (phaseCount x e s) := by
  unfold Machine.phaseCount
  dsimp only
  repeat' split
  · exact (h.core F).gone F.toBlind
  · exact h.core F
  · exact (h.core F).raise F.toBlind
  · exact h.core F

theorem measurePhase (F : Free x P) (h : Sides P s) : Sides P (measurePhase x s) := by
  unfold Machine.measurePhase
  split
  · exact h
  · exact (h.phaseCorrect F).phaseCount F

theorem frameStart (F : Free x P) (h : Sides P s) {n e l : Word16} : Sides P (frameStart x n e l s) := by
  have hbegin : ∀ {u : State} {now period}, Sides P u → Sides P (Machine.settle (Machine.measurePhase x
      (Machine.gone x .linkLost (u.onSide x (beginFrame now period n e l))))) := by
    intro u now period hu
    have hf : Sides P (u.onSide x (beginFrame now period n e l)) := hu.core F { held := fun _ _ => rfl }
    exact ((hf.gone F.toBlind).measurePhase F).settle F.toBlind
  unfold Machine.frameStart
  dsimp only
  split
  · exact h
  · split
    · exact hbegin (h.malformed F.toBlind)
    · exact hbegin h

theorem lineArrived (F : Free x P) (h : Sides P s) {bytes : List Byte} : Sides P (lineArrived x bytes s) := by
  unfold Machine.lineArrived
  split
  · exact h
  · split
    · exact h
    · refine h.core F ?_
      split
      · rw [usedLine_eq]
        exact { held := fun _ _ => rfl }
      · exact { held := fun _ _ => rfl }

theorem sameCore_passGood (f : FrameInProgress) (d : SideState) : SameCore d (passGood f d).unheld := by
  unfold passGood completeStatistics
  cases d.stats.collecting <;> exact { held := fun _ h => absurd h Bool.false_ne_true }

theorem sameCore_abandonFrame (d : SideState) : SameCore d (abandonFrame d).unheld :=
  { held := fun _ h => absurd h Bool.false_ne_true }

theorem frameEnd (F : Free x P) (h : Sides P s) : Sides P (frameEnd x s) := by
  unfold Machine.frameEnd
  dsimp only
  split
  · exact h
  · split
    · exact h
    · next f _ =>
      refine Sides.settle F.toBlind (releaseHold F ?_)
      split
      · exact (h.endFrame F (sameCore_passGood f _)).frozenCheck (blind_ending F)
      · exact (h.endFrame F (sameCore_abandonFrame _)).malformed (blind_ending F)

theorem linkLostExpired (F : Free x P) (h : Sides P s) : Sides P (linkLostExpired x s) := by
  have hraised : Sides P (Machine.raise x .linkLost
      (s.onSide x fun d => { d with port := { d.port with linkLost := none } })) :=
    (h.core F).raise F.toBlind
  unfold Machine.linkLostExpired
  dsimp only
  refine Sides.settle F.toBlind ?_
  split
  · exact releaseHold F (hraised.endFrame F (sameCore_abandonFrame _))
  · exact hraised

/-! ### Exposure and glare -/

theorem takeExposure (F : Free x P) (h : Sides P s) : Sides P (takeExposure x s) := by
  unfold Machine.takeExposure
  split
  · exact h
  · next c rest _ =>
    have hn : Sides P (s.onSide x fun d =>
        updateNight c.exposure { d with exposure := { d.exposure with waiting := rest } }) := by
      refine h.core F ?_
      have hl : ∀ e, (nightUpdate c.exposure e).limits = e.limits := by
        intro e; unfold nightUpdate; repeat' split
        all_goals rfl
      unfold updateNight
      dsimp only
      split
      · exact { settings := by simp only [sideSettings, hl]; rfl }
      · exact { settings := by simp only [sideSettings, hl] }
    unfold meter
    repeat' split
    · exact hn
    · exact hn
    · exact (hn.core F).submitted F

theorem takeGlare (F : Free x P) (h : Sides P s) : Sides P (takeGlare x s) := by
  unfold Machine.takeGlare
  split
  · exact h
  · refine h.core F ?_
    dsimp only
    split
    · exact {}
    · exact {}

/-! ### Display -/

/-- A VSYNC of a running side keeps what its slew and its choice of frame keep. -/
theorem showFrame (F : Free x P) (h : Sides P s) (hb : P x (s.side x) → P x (vsyncBlocks (s.side x))) :
    Sides P (showFrame x s) := by
  have hblocks : Sides P (s.onSide x vsyncBlocks) := h.onSide hb
  have hend : ∀ {u o}, Sides P u → Sides P (endStarting x o u) := by
    intro u o hu
    unfold endStarting
    split
    · exact hu.setView F (evaluated_ne_off _)
    · exact hu
  unfold Machine.showFrame
  dsimp only
  split
  · have hfresh : Sides P (freshFrame x (s.onSide x vsyncBlocks)) := (hblocks.core F).gone F.toBlind
    exact ((hend (hfresh.repeatCheck F.toBlind)).settle F.toBlind).core F
  · exact ((hend (hblocks.repeatCheck F.toBlind)).settle F.toBlind).core F

theorem tagCheck (F : Free x P) (h : Sides P s) {b : Bool} : Sides P (tagCheck x b s) := by
  unfold Machine.tagCheck
  dsimp only
  repeat' split
  · exact (h.core F).gone F.toBlind
  · exact h.core F
  · exact (h.core F).raise F.toBlind
  · exact h.core F

theorem latencyCheck (F : Free x P) (h : Sides P s) {c : Option PartTime} : Sides P (latencyCheck x c s) := by
  unfold Machine.latencyCheck
  dsimp only
  repeat' split
  · exact h
  · exact (h.core F).raise F.toBlind
  · exact h.core F
  · exact (h.core F).gone F.toBlind
  · exact h.core F

theorem sideCheck (F : Free x P) (h : Sides P s) {c : Byte} {n crc : Word16} : Sides P (sideCheck x c n crc s) := by
  have hg := h.gone (x := x) (k := .sideCrossed) F.toBlind
  unfold Machine.sideCheck lookUpEcho
  repeat' split
  · exact hg.count F.toBlind
  · exact hg
  · exact ((hg.core F).tagCheck F).latencyCheck F
  · exact h.raise F.toBlind

theorem echoArrived (F : Free x P) (h : Sides P s) {c : Byte} {n crc : Word16} : Sides P (echoArrived x c n crc s) := by
  have hclear : Sides P (s.onSide x fun d => { d with display := clearReceiver d.display }) := h.core F
  unfold Machine.echoArrived
  dsimp only
  split
  · exact hclear
  · exact (((hclear.core F).gone F.toBlind).sideCheck F).settle F.toBlind

end Sides

end Sys2Proof.Machine

/-! # The part states and the sides that are OFF

The part law is a law of each side, of the link, and of QUIESCING. Events of a running side happen in ACTIVE only, so
they need the law of the side alone; the events that can end QUIESCING pass through a state in which only that clause
may fail. -/

namespace Sys2Proof.Machine

/-! ## The law of a side -/

/-- What the part law says of a side, under a part state and a frame period. -/
def sideLaw (part : PartState) (period : Nat) (_ : Side) (d : SideState) : Prop :=
  (part ≠ .active → d.sup.view = .off) ∧ (d.sup.view = .off → idleSide d) ∧
    (d.vsync.armed = true → d.vsync.period = period) ∧ (d.cam.armed = true → d.cam.period = period) ∧
    (d.held.isSome = true → d.port.frame.isSome = true)

/-- A side that is OFF and at rest. -/
def offSide (_ : Side) (d : SideState) : Prop := d.sup.view = .off ∧ idleSide d

/-- The law of each side, where the side x runs. -/
def runningLaw (x : Side) (part : PartState) (period : Nat) (y : Side) (d : SideState) : Prop :=
  sideLaw part period y d ∧ (y = x → d.sup.view ≠ .off)

theorem offSide.law {y : Side} {d : SideState} (h : offSide y d) (part : PartState) (period : Nat) :
    sideLaw part period y d := by
  obtain ⟨hv, hi⟩ := h
  have ⟨h1, h2, h3, _⟩ := hi
  refine ⟨fun _ => hv, fun _ => hi, fun ha => ?_, fun ha => ?_, fun hh => ?_⟩
  · rw [h1] at ha; exact absurd ha Bool.false_ne_true
  · rw [h2] at ha; exact absurd ha Bool.false_ne_true
  · rw [h3] at hh; exact absurd hh Bool.false_ne_true

theorem sideLaw.off {part : PartState} {period : Nat} {y : Side} {d : SideState} (h : sideLaw part period y d)
    (hv : d.sup.view = .off) : offSide y d := ⟨hv, h.2.1 hv⟩

theorem blind_sideLaw (part : PartState) (period : Nat) : Blind (sideLaw part period) where
  faults _ h := h
  settled _ h := ⟨fun hp => settledView_off.2 (h.1 hp), fun hv => h.2.1 (settledView_off.1 hv), h.2.2⟩
  counters _ h := h

theorem blind_offSide : Blind offSide where
  faults _ h := h
  settled _ h := ⟨settledView_off.2 h.1, h.2⟩
  counters _ h := h

/-- A side that runs stays one under every change that leaves its core. -/
theorem free_runningLaw (x : Side) (part : PartState) (period : Nat) : Free x (runningLaw x part period) where
  faults f h := ⟨(blind_sideLaw part period).faults f h.1, h.2⟩
  settled ts h := ⟨(blind_sideLaw part period).settled ts h.1, fun e hv => h.2 e (settledView_off.1 hv)⟩
  counters c h := ⟨(blind_sideLaw part period).counters c h.1, h.2⟩
  core := by
    rintro d e c ⟨⟨h1, _, h3, h4, h5⟩, hr⟩
    have hon := hr rfl
    have hv := c.view hon
    refine ⟨⟨fun hp => absurd (h1 hp) hon, fun he => absurd he hv, ?_, ?_, c.held h5⟩, fun _ => hv⟩
    · rw [c.vsync.1, c.vsync.2]; exact h3
    · rw [c.cam.1, c.cam.2]; exact h4

/-- A start makes of a side that is OFF a running one. -/
theorem sideLaw_started {y : Side} {d : SideState} {timing : Timing} (x : Side) (t : PartTime) (signals : SignalTable)
    (f : FaultSet) (timer : Timer) (h : offSide y d) :
    sideLaw .active timing.framePeriod y { startBlocks x t timing signals d with
      sup := { d.sup with view := startView f, startTimer := timer } } := by
  obtain ⟨-, -, -, hh, -⟩ := h
  refine ⟨fun hp => absurd rfl hp, fun hv => ?_, fun _ => rfl, fun _ => rfl, fun hs => ?_⟩
  · have hn : startView f ≠ .off := by unfold startView; split <;> decide
    exact absurd hv hn
  · change d.held.isSome = true at hs
    rw [hh] at hs
    exact absurd hs Bool.false_ne_true

/-- A stop leaves a side OFF and at rest. -/
theorem offSide_stopped (x y : Side) (f : FaultSet) (d : SideState) : offSide y (stoppedBlocks x f d) :=
  ⟨rfl, rfl, rfl, rfl, rfl, rfl, rfl, rfl, rfl, rfl, rfl, rfl, rfl, rfl, rfl, rfl, rfl⟩

/-! ## The law of the link -/

/-- What the part law says of the link alone. -/
structure LinkLaw (l : Link) : Prop where
  init : l.initTimer.isSome = (l.part == .init)
  wake : l.wakeTimer.isSome = true → l.part = .standby
  lost : l.lost = true → l.slot.isSome = true

/-- The part law but for the clause of QUIESCING. -/
structure OpenLaw (s : State) : Prop where
  sides : Sides (sideLaw s.link.part s.timing.framePeriod) s
  link : LinkLaw s.link

theorem partLaw_iff (s : State) :
    PartLaw s ↔ OpenLaw s ∧ (s.powered = true → s.link.part = .quiescing → atRest s = false) := by
  constructor
  · rintro ⟨hs, h1, h2, h3, h4⟩; exact ⟨⟨hs, h1, h2, h4⟩, h3⟩
  · rintro ⟨⟨hs, h1, h2, h4⟩, h3⟩; exact ⟨hs, h1, h2, h3, h4⟩

theorem PartLaw.toOpen {s : State} (h : PartLaw s) : OpenLaw s := ((partLaw_iff s).1 h).1

theorem PartLaw.busy {s : State} (h : PartLaw s) : s.powered = true → s.link.part = .quiescing → atRest s = false :=
  ((partLaw_iff s).1 h).2

theorem PartLaw.side {s : State} (h : PartLaw s) (x : Side) :
    sideLaw s.link.part s.timing.framePeriod x (s.side x) := h.toOpen.sides x

theorem OpenLaw.closed {s : State} (h : OpenLaw s) (hp : s.link.part ≠ .quiescing) : PartLaw s :=
  (partLaw_iff s).2 ⟨h, fun _ hq => absurd hq hp⟩

/-- A side that is not OFF runs in ACTIVE. -/
theorem PartLaw.active {s : State} {x : Side} (h : PartLaw s) (hv : (s.side x).sup.view ≠ .off) :
    s.link.part = .active := by
  by_contra hp
  exact hv ((h.side x).1 hp)

theorem PartLaw.idle {s : State} {x : Side} (h : PartLaw s) (hv : (s.side x).sup.view = .off) : idleSide (s.side x) :=
  (h.side x).2.1 hv

/-- Outside ACTIVE both sides are OFF and at rest. -/
theorem OpenLaw.off {s : State} (h : OpenLaw s) (hp : s.link.part ≠ .active) : Sides offSide s :=
  fun y => (h.sides y).off ((h.sides y).1 hp)

/-- An event that changes the sides alone keeps the open law if it keeps the law of the sides. -/
theorem OpenLaw.sidesOnly {s t : State} (h : OpenLaw s) (f : SidesOnly s t)
    (hd : Sides (sideLaw s.link.part s.timing.framePeriod) t) : OpenLaw t :=
  ⟨by rw [f.link, f.timing]; exact hd, by rw [f.link]; exact h.link⟩

/-- In ACTIVE an event that changes the sides alone keeps the part law if it keeps the law of the sides. -/
theorem PartLaw.sidesOnly {s t : State} (h : PartLaw s) (ha : s.link.part = .active) (f : SidesOnly s t)
    (hd : Sides (sideLaw s.link.part s.timing.framePeriod) t) : PartLaw t :=
  (h.toOpen.sidesOnly f hd).closed (by rw [f.link, ha]; decide)

/-- In every part state, an event that changes the sides alone and no channel. -/
theorem PartLaw.channels {s t : State} (h : PartLaw s) (f : SidesOnly s t)
    (hd : Sides (sideLaw s.link.part s.timing.framePeriod) t)
    (hc : Sides (fun y d => d.channel = (s.side y).channel) t) : PartLaw t := by
  have hl : t.left.channel = s.left.channel := hc .left
  have hr : t.right.channel = s.right.channel := hc .right
  have e : atRest t = atRest s := by
    unfold atRest
    rw [hl, hr, f.store]
  refine (partLaw_iff t).2 ⟨h.toOpen.sidesOnly f hd, ?_⟩
  rw [f.powered, f.link, e]
  exact h.busy

/-- An event of a running side that changes the sides alone. -/
theorem PartLaw.running {s t : State} {x : Side} (h : PartLaw s) (hv : (s.side x).sup.view ≠ .off) (f : SidesOnly s t)
    (hd : Sides (runningLaw x s.link.part s.timing.framePeriod) s →
      Sides (runningLaw x s.link.part s.timing.framePeriod) t) : PartLaw t :=
  h.sidesOnly (h.active hv) f fun y => (hd (fun y => ⟨h.side y, fun e => e ▸ hv⟩) y).1

/-- In ACTIVE the store, the signals and the monitor are free. -/
theorem PartLaw.ofActive {s t : State} (h : PartLaw s) (ha : s.link.part = .active) (hl : t.link = s.link)
    (hd : Sides (sideLaw s.link.part t.timing.framePeriod) t) : PartLaw t :=
  OpenLaw.closed ⟨by rw [hl]; exact hd, by rw [hl]; exact h.toOpen.link⟩ (by rw [hl, ha]; decide)

/-- Signals, monitor and record change nothing that the law looks at. -/
theorem PartLaw.congr {s t : State} (h : PartLaw s) (hl : t.link = s.link) (ht : t.timing = s.timing)
    (hs : t.store = s.store) (hp : t.powered = s.powered) (h1 : t.left = s.left) (h2 : t.right = s.right) :
    PartLaw t := by
  refine (partLaw_iff t).2 ⟨⟨?_, by rw [hl]; exact h.toOpen.link⟩, ?_⟩
  · rw [hl, ht]; exact h.toOpen.sides.congr h1 h2
  · unfold atRest
    rw [hl, hp, h1, h2, hs]
    exact h.busy

theorem blind_channel (s : State) : Blind fun y d => d.channel = (s.side y).channel where
  faults _ h := h
  settled _ h := h
  counters _ h := h

theorem sides_channel (s : State) : Sides (fun y d => d.channel = (s.side y).channel) s := fun _ => rfl

/-! ## The events of a side -/

/-- A trigger that is due is armed, so its side is not OFF; and so for the timers that a stop disarms. -/
theorem PartLaw.running_of_due {s : State} {x : Side} (h : PartLaw s)
    (hd : (s.side x).vsync.due s.now = true ∨ (s.side x).cam.due s.now = true ∨
      due (s.side x).port.linkLost s.now = true ∨ due (s.side x).display.echoTimer s.now = true ∨
      due (s.side x).sup.startTimer s.now = true ∨ due (s.side x).geometry.inspectTimer s.now = true) :
    (s.side x).sup.view ≠ .off := by
  intro hv
  have ⟨h1, h2, _, _, h5, _, _, _, _, _, h11, _, _, h14, _, h16⟩ := h.idle hv
  simp [Trigger.due, due, h1, h2, h5, h11, h14, h16] at hd

/-- A side that is OFF has no completion waiting. -/
theorem PartLaw.running_of_waiting {s : State} {x : Side} (h : PartLaw s)
    (hw : (s.side x).exposure.waiting ≠ [] ∨ (s.side x).glare.waiting ≠ []) : (s.side x).sup.view ≠ .off := by
  intro hv
  have ⟨_, _, _, _, _, _, h7, h8, _⟩ := h.idle hv
  simp [h7, h8] at hw

theorem partLaw_vsyncExpired {x : Side} {s : State} (hd : (s.side x).vsync.due s.now = true) (h : PartLaw s) :
    PartLaw (vsyncExpired x s) := by
  have hv := h.running_of_due (.inl hd)
  refine h.running hv (SidesOnly.refl s).vsyncExpired fun hs => ?_
  unfold vsyncExpired
  rw [if_neg hv]
  refine hs.showFrame (free_runningLaw _ _ _) fun ⟨⟨h1, _, h3⟩, hr⟩ => ?_
  exact ⟨⟨h1, fun he => absurd he hv, h3⟩, hr⟩

theorem partLaw_frameStart {x : Side} {n e l : Word16} {s : State} (h : PartLaw s) :
    PartLaw (frameStart x n e l s) := by
  by_cases hv : (s.side x).sup.view = .off
  · rw [frameStart, if_pos hv]; exact h
  · exact h.running hv (SidesOnly.refl s).frameStart fun hs => hs.frameStart (free_runningLaw _ _ _)

theorem partLaw_lineArrived {x : Side} {bytes : List Byte} {s : State} (h : PartLaw s) :
    PartLaw (lineArrived x bytes s) := by
  by_cases hv : (s.side x).sup.view = .off
  · rw [lineArrived, if_pos hv]; exact h
  · exact h.running hv (SidesOnly.refl s).lineArrived fun hs => hs.lineArrived (free_runningLaw _ _ _)

theorem partLaw_frameEnd {x : Side} {s : State} (h : PartLaw s) : PartLaw (frameEnd x s) := by
  by_cases hv : (s.side x).sup.view = .off
  · rw [frameEnd, if_pos hv]; exact h
  · exact h.running hv (SidesOnly.refl s).frameEnd (Sides.frameEnd (free_runningLaw _ _ _))

theorem partLaw_takeExposure {x : Side} {s : State} (h : PartLaw s) : PartLaw (takeExposure x s) := by
  by_cases hw : (s.side x).exposure.waiting = []
  · unfold takeExposure; rw [hw]; exact h
  · exact h.running (h.running_of_waiting (.inl hw)) (SidesOnly.refl s).takeExposure
      (Sides.takeExposure (free_runningLaw _ _ _))

theorem partLaw_takeGlare {x : Side} {s : State} (h : PartLaw s) : PartLaw (takeGlare x s) := by
  by_cases hw : (s.side x).glare.waiting = []
  · unfold takeGlare; rw [hw]; exact h
  · exact h.running (h.running_of_waiting (.inr hw)) (SidesOnly.refl s).takeGlare
      (Sides.takeGlare (free_runningLaw _ _ _))

/-- The echo receiver of a side is free, OFF or not. -/
theorem partLaw_receiver {x : Side} {s : State} (h : PartLaw s) (received : List Byte) (timer : Timer) :
    PartLaw (s.onSide x fun d => { d with display := { d.display with received := received, idleTimer := timer } }) :=
  h.channels (SidesOnly.refl s).onSide (Sides.onSide h.toOpen.sides id) ((sides_channel s).onSide id)

theorem partLaw_echoArrived {x : Side} {c : Byte} {n crc : Word16} {s : State} (h : PartLaw s) :
    PartLaw (echoArrived x c n crc s) := by
  by_cases hv : (s.side x).sup.view = .off
  · have e : echoArrived x c n crc s = s.onSide x fun d => { d with display := clearReceiver d.display } := by
      unfold echoArrived
      simp [hv]
    rw [e]
    exact partLaw_receiver h [] none
  · exact h.running hv (SidesOnly.refl s).echoArrived fun hs => hs.echoArrived (free_runningLaw _ _ _)

theorem onSide_receiver (x : Side) (b : Byte) (timer : Timer) (s : State) :
    (s.onSide x fun d => { d with display :=
      { d.display with received := d.display.received ++ [b], idleTimer := timer } }) =
    s.onSide x fun d => { d with display :=
      { d.display with received := (s.side x).display.received ++ [b], idleTimer := timer } } := by
  cases x <;> rfl

theorem partLaw_echoByte {x : Side} {b : Byte} {s : State} (h : PartLaw s) : PartLaw (echoByte x b s) := by
  unfold echoByte
  dsimp only
  repeat' split
  · exact h
  · rw [onSide_receiver]; exact partLaw_receiver h _ _
  · exact partLaw_echoArrived h

/-- A timer of a running side that raises a kind. -/
theorem partLaw_raised {x : Side} {k : FaultKind} {f : SideState → SideState} {s : State} (h : PartLaw s)
    (hv : (s.side x).sup.view ≠ .off) (hf : SameCore (s.side x) (f (s.side x))) :
    PartLaw (settle (raise x k (s.onSide x f))) :=
  h.running hv (SidesOnly.refl s).onSide.raise.settle fun hs =>
    have F := free_runningLaw x s.link.part s.timing.framePeriod
    ((hs.core F hf).raise F.toBlind).settle F.toBlind

/-- A change of the geometry of a running side. -/
theorem partLaw_geometry {x : Side} {f : SideState → Geometry} {s : State} (h : PartLaw s)
    (hv : (s.side x).sup.view ≠ .off) : PartLaw (s.onSide x fun d => { d with geometry := f d }) := by
  refine h.running hv (SidesOnly.refl s).onSide fun hs => hs.onSide fun ⟨⟨h1, _, h3⟩, hr⟩ => ?_
  exact ⟨⟨h1, fun he => absurd he hv, h3⟩, hr⟩

theorem partLaw_overrideSide {x : Side} {f : Geometry → Overrides} {s : State} (h : PartLaw s) :
    PartLaw (overrideSide x f s) := by
  unfold overrideSide
  split
  · exact h
  · next hv => exact partLaw_geometry h hv

/-- In every part state, the supervisor's operations on a state of the law. -/
theorem PartLaw.settle {s : State} (h : PartLaw s) : PartLaw (settle s) :=
  h.channels (SidesOnly.refl s).settle (Sides.settle (blind_sideLaw _ _) h.toOpen.sides)
    ((sides_channel s).settle (blind_channel s))

theorem PartLaw.raisePart {s : State} {k : FaultKind} (h : PartLaw s) : PartLaw (raisePart k s) :=
  h.channels (SidesOnly.refl s).raisePart (Sides.raisePart (blind_sideLaw _ _) h.toOpen.sides)
    ((sides_channel s).raisePart (blind_channel s))

theorem PartLaw.gonePart {s : State} {k : FaultKind} (h : PartLaw s) : PartLaw (gonePart k s) :=
  h.channels (SidesOnly.refl s).gonePart (Sides.gonePart (blind_sideLaw _ _) h.toOpen.sides)
    ((sides_channel s).gonePart (blind_channel s))

theorem partLaw_levelKind {s : State} {k : FaultKind} {b a : Bool} (h : PartLaw s) : PartLaw (levelKind k b a s) := by
  unfold levelKind
  split
  · exact h.raisePart
  · split
    · exact h.gonePart
    · exact h

theorem partLaw_sampleArrived {s : State} (supply : Nat) (temperature : Int) (h : PartLaw s) :
    PartLaw (sampleArrived supply temperature s) :=
  (partLaw_levelKind (partLaw_levelKind (partLaw_levelKind (partLaw_levelKind
    (h.congr (t := { s with health := sampled supply temperature s.health, freeCount := s.freeCount + 1 })
      rfl rfl rfl rfl rfl rfl))))).settle

theorem partLaw_freshness (sig : Signal) {s : State} (h : PartLaw s) : PartLaw (freshnessExpired sig s) := by
  have hm : PartLaw { s with signals := makeStale sig s.signals } := h.congr rfl rfl rfl rfl rfl rfl
  have ho := partLaw_overrideSide (x := .right) (f := fun g => staleOverrides sig g.overrides)
    (partLaw_overrideSide (x := .left) (f := fun g => staleOverrides sig g.overrides) hm)
  unfold freshnessExpired
  dsimp only
  split
  · exact ho.raisePart.settle
  · exact ho.settle

/-! ## Channels and the end of QUIESCING -/

/-- A dispatch leaves a quiet channel only where it found one. -/
theorem dispatched_quiet_eq (c : Channel) (now : PartTime) : (dispatched c now).quiet = c.quiet := by
  unfold dispatched
  cases hf : c.inFlight <;> cases hq : c.queue <;> simp [Channel.quiet, Channel.sendOldest, hf, hq]

/-- A channel that STREAM_OFF was given to is not quiet: it is in flight, or pending behind another. -/
theorem admitted_streamOff_busy (c : Channel) (now : PartTime) : (admittedChannel .streamOff c now).quiet = false := by
  rw [admittedChannel, dispatched_quiet_eq]
  simp [Channel.quiet, admitQueue]

theorem partLaw_dispatch {x : Side} {s : State} (h : PartLaw s) : PartLaw (dispatch x s) := by
  have f : SidesOnly s (dispatch x s) := (SidesOnly.refl s).dispatch
  refine (partLaw_iff _).2 ⟨h.toOpen.sidesOnly f (Sides.dispatch h.toOpen.sides fun _ => id), ?_⟩
  have e : atRest (dispatch x s) = atRest s := by
    rw [dispatch_eq]
    cases x <;> simp [atRest, dispatched_quiet_eq]
  rw [f.powered, f.link, e]
  exact h.busy

/-- QUIESCING ends where the part has come to rest, so an event that may bring it to rest keeps the law (R181). -/
theorem OpenLaw.endQuiescing {s : State} (h : OpenLaw s) : PartLaw (endQuiescing s) := by
  unfold Machine.endQuiescing
  split
  · next hq =>
    obtain ⟨hq, -⟩ := hq
    have hn : s.link.part ≠ .active := by rw [hq]; decide
    have hoff := h.off hn
    refine OpenLaw.closed ⟨fun y => (hoff y).law _ _, ?_, fun _ => rfl, h.link.lost⟩ (by simp)
    have hi := h.link.init
    rw [hq] at hi
    exact hi
  · next hq =>
    refine (partLaw_iff s).2 ⟨h, fun _ hp => ?_⟩
    by_contra hr
    exact hq ⟨hp, by simpa using hr⟩

theorem partLaw_acknowledged {x : Side} {s : State} (h : PartLaw s) :
    PartLaw (endQuiescing (settle (acknowledged x s))) := by
  have B := blind_sideLaw s.link.part s.timing.framePeriod
  have hs : Sides (sideLaw s.link.part s.timing.framePeriod)
      (s.onSide x fun d => { d with channel := d.channel.ended }) := Sides.onSide h.toOpen.sides id
  exact (h.toOpen.sidesOnly (SidesOnly.refl s).acknowledged.settle
    (((hs.gone B).dispatch fun _ => id).settle B)).endQuiescing

theorem partLaw_failed {x : Side} {s : State} (h : PartLaw s) : PartLaw (endQuiescing (settle (failed x s))) := by
  have B := blind_sideLaw s.link.part s.timing.framePeriod
  have hs : Sides (sideLaw s.link.part s.timing.framePeriod)
      (s.onSide x fun d => { d with channel := d.channel.ended }) := Sides.onSide h.toOpen.sides id
  refine (h.toOpen.sidesOnly (SidesOnly.refl s).failed.settle (Sides.settle B ?_)).endQuiescing
  unfold failed
  split
  · exact hs
  · split
    · exact (hs.raise B).dispatch fun _ => id
    · exact (Sides.count B (Sides.onSide h.toOpen.sides id)).emit

/-! ## Resets and the store -/

theorem offSide_reset (y : Side) : offSide y resetSide :=
  ⟨rfl, rfl, rfl, rfl, rfl, rfl, rfl, rfl, rfl, rfl, rfl, rfl, rfl, rfl, rfl, rfl, rfl⟩

theorem partLaw_volatileReset (s : State) : PartLaw (volatileReset s) :=
  OpenLaw.closed ⟨Sides.both ((offSide_reset _).law _ _) ((offSide_reset _).law _ _),
    rfl, fun h => absurd h Bool.false_ne_true, fun h => absurd h Bool.false_ne_true⟩
    (show PartState.init ≠ .quiescing by decide)

theorem partLaw_powerOn (s : State) : PartLaw (powerOn s) :=
  (partLaw_volatileReset { s with powered := true, link := { s.link with window := none } }).congr rfl rfl rfl
    rfl rfl rfl

/-- A link that differs in what windows and replies leave keeps the open law. -/
theorem OpenLaw.reply {s : State} (h : OpenLaw s) (frame : List Byte) : OpenLaw (placeReply frame s) := by
  rw [placeReply_eq]
  exact ⟨h.sides.congr rfl rfl, h.link.init, h.link.wake, fun _ => rfl⟩

theorem openLaw_deferredReset {s : State} (h : OpenLaw s) : OpenLaw (deferredReset s) := by
  unfold deferredReset
  split
  · exact h
  · split
    · exact h
    · exact (partLaw_volatileReset s).toOpen.reply _

theorem partLaw_deferredReset {s : State} (h : PartLaw s) : PartLaw (deferredReset s) := by
  unfold deferredReset
  split
  · exact h
  · split
    · exact h
    · exact ((partLaw_volatileReset s).toOpen.reply _).closed
        (by rw [placeReply_eq]; exact show PartState.init ≠ .quiescing by decide)

/-- The store is free but for what QUIESCING asks of it. -/
theorem OpenLaw.store {s : State} (h : OpenLaw s) (st : Store) : OpenLaw { s with store := st } :=
  ⟨h.sides.congr rfl rfl, h.link⟩

theorem partLaw_advancePhase (o : StoreOperation) {s : State} (h : PartLaw s) : PartLaw (advancePhase o s) :=
  (partLaw_iff _).2 ⟨h.toOpen.store _, fun _ _ => by simp [atRest, advancePhase]⟩

theorem partLaw_losePower {s : State} (h : PartLaw s) : PartLaw (losePower s) :=
  (partLaw_iff _).2 ⟨⟨h.toOpen.sides.congr rfl rfl, h.toOpen.link⟩, fun hp => absurd hp Bool.false_ne_true⟩

end Sys2Proof.Machine

/-! # The part states: starts, stops, the part's own transitions and the requests -/

namespace Sys2Proof.Machine

theorem eq_left_of_ne_right {x : Side} (h : x ≠ .right) : x = .left := by
  cases x with
  | left => rfl
  | right => exact absurd rfl h

/-! ## Starts and stops in ACTIVE -/

theorem PartLaw.submit {s : State} {x : Side} {t : Transaction} (h : PartLaw s) (ha : s.link.part = .active) :
    PartLaw (submit x t s) :=
  h.sidesOnly ha (SidesOnly.refl s).submit (Sides.submit h.toOpen.sides fun _ => id)

theorem startSide_side_ne {s : State} {x y : Side} (hne : y ≠ x) (hv : (s.side x).sup.view = .off) :
    (startSide s x).side y = s.side y := by
  rw [startSide_eq hv, admit_eq]
  cases x <;> cases y <;> simp_all

theorem partLaw_startSide {s : State} {x : Side} (h : PartLaw s) (ha : s.link.part = .active)
    (hv : (s.side x).sup.view = .off) : PartLaw (startSide s x) := by
  refine h.sidesOnly ha (SidesOnly.refl s).startSide ?_
  rw [startSide_eq hv]
  have hd := sideLaw_started (timing := s.timing) x s.now s.signals (s.faults x)
    (some (after s.now ((s.side x).sup.startTimeout * 1000))) ((h.side x).off hv)
  rw [← ha] at hd
  exact (h.toOpen.sides.setSide hd).submit fun _ => id

theorem partLaw_startIfOff {s : State} {x : Side} (h : PartLaw s) (ha : s.link.part = .active) :
    PartLaw (startIfOff s x) := by
  unfold startIfOff
  split
  · next hv => exact partLaw_startSide h ha hv
  · exact h

theorem startSide_part (s : State) (x : Side) : (startSide s x).link.part = s.link.part := by
  rw [(SidesOnly.refl s).startSide.link]

/-- A list of distinct sides that are OFF, started one after the other. -/
theorem partLaw_startSides {l : List Side} {s : State} (hn : l.Nodup) (h : PartLaw s) (ha : s.link.part = .active)
    (hv : ∀ x ∈ l, (s.side x).sup.view = .off) : PartLaw (l.foldl startSide s) := by
  induction l generalizing s with
  | nil => exact h
  | cons x l ih =>
    obtain ⟨hx, hl⟩ := List.nodup_cons.1 hn
    have hxv := hv x (List.mem_cons_self ..)
    refine ih hl (partLaw_startSide h ha hxv) ((startSide_part s x).trans ha) fun y hy => ?_
    rw [startSide_side_ne (fun e : y = x => hx (e ▸ hy)) hxv]
    exact hv y (List.mem_cons_of_mem _ hy)

theorem partLaw_startBoth {s : State} (h : PartLaw s) (ha : s.link.part = .active) (hoff : Sides offSide s) :
    PartLaw (startBoth s) :=
  partLaw_startSides (l := [.left, .right]) (by decide) h ha fun x _ => (hoff x).1

/-- A stop leaves its side OFF and at rest, and the other side as it was. -/
theorem stopSide_sides {P : Side → SideState → Prop} {s : State} {x : Side} (h : ∀ y, y ≠ x → P y (s.side y))
    (hx : ∀ f c, P x { stoppedBlocks x f (s.side x) with channel := c }) : Sides P (stopSide s x) := by
  intro y
  rw [stopSide_eq, admit_eq]
  by_cases e : y = x
  · subst e
    cases y <;> exact hx _ _
  · have hy := h y e
    match x, y, e, hy with
    | .left, .right, _, hy => exact hy
    | .right, .left, _, hy => exact hy

theorem partLaw_stopIfRunning {s : State} {x : Side} (h : PartLaw s) (ha : s.link.part = .active) :
    PartLaw (stopIfRunning s x) := by
  unfold stopIfRunning
  split
  · exact h
  · exact h.sidesOnly ha (SidesOnly.refl s).stopSide
      (stopSide_sides (fun y _ => h.side y) fun f _ => (offSide_stopped x x f _).law _ _)

/-- What each member of a list keeps in ACTIVE, the list keeps. -/
theorem partLaw_foldl {α : Type} {f : State → α → State} (hs : ∀ u a, SidesOnly u (f u a))
    (hf : ∀ u a, PartLaw u → u.link.part = .active → PartLaw (f u a)) (l : List α) {s : State} (h : PartLaw s)
    (ha : s.link.part = .active) : PartLaw (l.foldl f s) := by
  induction l generalizing s with
  | nil => exact h
  | cons a l ih => exact ih (hf s a h ha) (by rw [(hs s a).link]; exact ha)

/-! ## INIT, STANDBY and WAKE -/

theorem offSides_loaded {s : State} (p : Profile) (h : Sides offSide s) : Sides offSide (s.loaded p) :=
  Sides.both (h .left) (h .right)

theorem offSides_calibrated {s : State} (bl br : Window) (ml mr : List (Option Nat)) (c : Word16)
    (h : Sides offSide s) : Sides offSide (s.calibrated bl br ml mr c) :=
  Sides.both (h .left) (h .right)

theorem calibrated_link (s : State) (bl br : Window) (ml mr : List (Option Nat)) (c : Word16) :
    (s.calibrated bl br ml mr c).link = { s.link with partCode := c } := rfl

theorem initCalibration_off {s : State} (h : Sides offSide s) :
    Sides offSide (initCalibration s) ∧ ∃ c, (initCalibration s).link = { s.link with partCode := c } := by
  obtain ⟨bl, br, ml, mr, c, u, -, -, hu, e⟩ := initCalibration_cases s
  rw [e, calibrated_link]
  obtain rfl | rfl := hu
  · exact ⟨offSides_calibrated _ _ _ _ _ h, _, rfl⟩
  · exact ⟨offSides_calibrated _ _ _ _ _ (h.raisePart blind_offSide), c, by
      rw [((SidesOnly.refl s).raisePart (k := .calibrationDamaged)).link]⟩

/-- With both sides OFF, no timer of the link armed and the settings loaded, the part may be ACTIVE. -/
theorem partLaw_loaded {s : State} (p : Profile) (h : Sides offSide s) (hi : s.link.initTimer = none)
    (hw : s.link.wakeTimer = none) (hl : s.link.lost = true → s.link.slot.isSome = true) :
    PartLaw (setPart .active (s.loaded p)) ∧ Sides offSide (setPart .active (s.loaded p)) := by
  have hoff : Sides offSide (setPart .active (s.loaded p)) := (offSides_loaded p h).congr rfl rfl
  refine ⟨OpenLaw.closed ⟨fun y => (hoff y).law _ _, ?_, fun e => ?_, hl⟩ (by simp [setPart]), hoff⟩
  · change s.link.initTimer.isSome = false
    rw [hi]; rfl
  · change s.link.wakeTimer.isSome = true at e
    rw [hw] at e
    exact absurd e Bool.false_ne_true

/-- The init completion leaves INIT with both sides OFF, then starts both or neither (R177). -/
theorem partLaw_initCompleted {s : State} (wakeHigh : Bool) (hd : due s.link.initTimer s.now = true) (h : PartLaw s) :
    PartLaw (initCompleted wakeHigh s) := by
  have hinit : s.link.part = .init := by
    have hi := h.toOpen.link.init
    cases ht : s.link.initTimer with
    | none => simp [ht, due] at hd
    | some e => simpa [ht] using hi.symm
  have hwake : s.link.wakeTimer = none := by
    have hw := h.toOpen.link.wake
    rw [hinit] at hw
    simpa using hw
  have hoff : Sides offSide (setWakeLine wakeHigh { s with link := { s.link with initTimer := none } }) :=
    (h.toOpen.off (by rw [hinit]; decide)).congr rfl rfl
  obtain ⟨hcal, c, hl⟩ := initCalibration_off hoff
  have hloaded := partLaw_loaded (initProfile (initCalibration
    (setWakeLine wakeHigh { s with link := { s.link with initTimer := none } }))) hcal
    (by rw [hl]; rfl) (by rw [hl]; exact hwake) (by rw [hl]; exact h.toOpen.link.lost)
  rw [← loadInitProfile_eq] at hloaded
  obtain ⟨hp, hboth⟩ := hloaded
  unfold initCompleted streamOffBoth
  dsimp only
  split
  · exact (partLaw_startBoth hp rfl hboth).settle
  · exact ((hp.submit rfl).submit (by rw [(SidesOnly.refl _).submit.link]; rfl)).settle

theorem partLaw_wakeExpired {s : State} (hd : due s.link.wakeTimer s.now = true) (h : PartLaw s) :
    PartLaw (wakeExpired s) := by
  have hst : s.link.part = .standby := by
    refine h.toOpen.link.wake ?_
    cases ht : s.link.wakeTimer with
    | none => simp [ht, due] at hd
    | some e => rfl
  have hoff : Sides offSide s := h.toOpen.off (by rw [hst]; decide)
  have hi : s.link.initTimer.isSome = false := by
    have := h.toOpen.link.init
    rw [hst] at this
    exact this
  have hs : PartLaw { s with link := { s.link with part := .active, wakeTimer := none, pendingWake := none } } :=
    OpenLaw.closed ⟨fun y => ((hoff.congr rfl rfl : Sides offSide _) y).law _ _, hi,
      fun hw => absurd hw Bool.false_ne_true, h.toOpen.link.lost⟩ (by simp)
  unfold wakeExpired
  dsimp only
  split
  · exact partLaw_startBoth hs rfl (hoff.congr rfl rfl)
  · exact hs

/-- The pending wake and the level of the wake line are free. -/
theorem PartLaw.wakes {s : State} (h : PartLaw s) (w : Option Wake) (level : Bool) (pending : Option Byte) :
    PartLaw { s with link := { s.link with pendingWake := w, wakeLine := level, resetPending := pending } } :=
  (partLaw_iff _).2 ⟨⟨h.toOpen.sides.congr rfl rfl, h.toOpen.link.init, h.toOpen.link.wake, h.toOpen.link.lost⟩, h.busy⟩

theorem partLaw_armWakeTimer {s : State} (hst : s.link.part = .standby) (h : PartLaw s) : PartLaw (armWakeTimer s) :=
  OpenLaw.closed ⟨h.toOpen.sides.congr rfl rfl, h.toOpen.link.init, fun _ => hst, h.toOpen.link.lost⟩
    (by change s.link.part ≠ _; rw [hst]; decide)

theorem partLaw_setWake {s : State} (w : Wake) (h : PartLaw s) : PartLaw (setWake w s) :=
  h.wakes (some w) s.link.wakeLine s.link.resetPending

theorem partLaw_wakeRequested {s : State} (h : PartLaw s) : PartLaw (wakeRequested s) := by
  unfold wakeRequested
  split
  · exact h
  · exact h
  · split
    · exact partLaw_setWake _ h
    · exact h
  · next hst =>
    split
    · exact partLaw_armWakeTimer hst (partLaw_setWake _ h)
    · exact h

theorem partLaw_wakeLineRises {s : State} (h : PartLaw s) : PartLaw (wakeLineRises s) := by
  have hl : PartLaw (setWakeLine true s) := h.wakes s.link.pendingWake true s.link.resetPending
  unfold wakeLineRises
  dsimp only
  split
  · exact hl
  · unfold wakeEdge
    split
    · exact hl
    · next ha =>
      exact partLaw_startIfOff (partLaw_startIfOff hl ha) (by rw [(SidesOnly.refl _).startIfOff.link]; exact ha)
    · exact partLaw_setWake _ hl
    · next hst =>
      split
      · exact partLaw_armWakeTimer hst (partLaw_setWake _ hl)
      · exact partLaw_setWake _ hl

/-- A side stopped for STANDBY is OFF and at rest, whether or not it ran. -/
theorem standbySide_sides {s : State} {x : Side} {P : Side → SideState → Prop}
    (hoff : (s.side x).sup.view = .off → offSide x (s.side x)) (h : ∀ y, y ≠ x → P y (s.side y))
    (hx : ∀ d, offSide x d → P x d) : Sides P (standbySide s x) := by
  unfold standbySide
  split
  · next hv =>
    intro y
    rw [admit_eq]
    by_cases e : y = x
    · subst e
      have := hx _ (show offSide y { s.side y with channel := admittedChannel .streamOff (s.side y).channel s.now } from
        hoff hv)
      cases y <;> exact this
    · have hy := h y e
      match x, y, e, hy with
      | .left, .right, _, hy => exact hy
      | .right, .left, _, hy => exact hy
  · exact stopSide_sides h fun f c => hx _ (offSide_stopped x x f _)

/-- STREAM_OFF is in the channel of a side stopped for STANDBY. -/
theorem standbySide_busy (s : State) (x : Side) : ((standbySide s x).side x).channel.quiet = false := by
  unfold standbySide
  split
  · rw [admit_channel]; exact admitted_streamOff_busy _ _
  · rw [stopSide_eq, admit_channel]; exact admitted_streamOff_busy _ _

/-- STANDBY stops both sides and gives both channels STREAM_OFF, so QUIESCING begins with work to do (R181). -/
theorem partLaw_standby {s : State} (h : PartLaw s) (ha : s.link.part = .active) :
    PartLaw (ownStandby s).state := by
  have hleft : Sides (fun y d => y = .left → offSide y d) (standbySide s .left) :=
    standbySide_sides (h.side .left).off (fun y e he => absurd he e) fun _ hd _ => hd
  have hlaw : Sides (sideLaw s.link.part s.timing.framePeriod) (standbySide s .left) :=
    standbySide_sides (h.side .left).off (fun y _ => h.side y) fun _ hd => hd.law _ _
  have hboth : Sides offSide (standbySide (standbySide s .left) .right) :=
    standbySide_sides (hlaw .right).off
      (fun y e => hleft y (eq_left_of_ne_right e)) fun _ hd => hd
  have hl : (standbySide (standbySide s .left) .right).link = s.link :=
    (SidesOnly.refl s).standbySide.standbySide.link
  refine PartLaw.settle (s := setPart .quiescing (standbySide (standbySide s .left) .right))
    ((partLaw_iff _).2 ⟨⟨?_, ?_⟩, ?_⟩)
  · exact fun y => ((hboth.congr rfl rfl : Sides offSide _) y).law _ _
  · have hi := h.toOpen.link.init
    rw [ha] at hi
    simp only [setPart, hl]
    refine ⟨hi, fun hw => ?_, h.toOpen.link.lost⟩
    have he := h.toOpen.link.wake hw
    rw [ha] at he
    exact absurd he (by decide)
  · intro _ _
    have hb : (standbySide (standbySide s .left) .right).right.channel.quiet = false :=
      standbySide_busy (standbySide s .left) .right
    simp [atRest, setPart, hb]

/-! ## The requests -/

theorem sideLaw_restore (selector : Nat) {part : PartState} {period : Nat} (l : List Side) {s : State}
    (h : Sides (sideLaw part period) s) : Sides (sideLaw part period) (l.foldl (restoreSide selector) s) :=
  Sides.foldl (fun _ _ hv => hv.restoreSide (blind_sideLaw part period)) l h

theorem sideLaw_calibrated {part : PartState} {period : Nat} {s : State} (bl br : Window) (ml mr : List (Option Nat))
    (c : Word16) (h : Sides (sideLaw part period) s) : Sides (sideLaw part period) (s.calibrated bl br ml mr c) :=
  Sides.both (h .left) (h .right)

theorem PartLaw.calibrated {s : State} (bl br : Window) (ml mr : List (Option Nat)) (c : Word16) (h : PartLaw s) :
    PartLaw (s.calibrated bl br ml mr c) :=
  have ⟨hi, hw, hl⟩ := h.toOpen.link
  (partLaw_iff _).2 ⟨⟨sideLaw_calibrated _ _ _ _ _ h.toOpen.sides, hi, hw, hl⟩, h.busy⟩

theorem partLaw_restoreView (p : List Byte) {s : State} (h : PartLaw s) (ha : s.link.part = .active) :
    PartLaw (ownRestoreView p s).state := by
  obtain e | ⟨selector, sides, e⟩ := ownRestoreView_cases p s
  · rw [e]; exact h
  · rw [e]
    have hr : PartLaw (sides.foldl (restoreSide selector) s) :=
      h.sidesOnly ha (SidesOnly.foldl (fun v _ => (SidesOnly.refl v).restoreSide) _ (SidesOnly.refl s))
        (sideLaw_restore _ _ h.toOpen.sides)
    refine PartLaw.settle ?_
    obtain e | ⟨bl, br, ml, mr, c, u, -, -, hu, e⟩ :=
      rereadIfNamed_cases selector sides (sides.foldl (restoreSide selector) s)
    · rw [e]; exact hr
    · rw [e]
      refine PartLaw.calibrated _ _ _ _ _ ?_
      obtain rfl | rfl := hu
      · exact hr
      · have B := blind_sideLaw s.link.part s.timing.framePeriod
        exact h.sidesOnly ha (SidesOnly.foldl (fun v _ => (SidesOnly.refl v).restoreSide) _
          (SidesOnly.refl s)).setFault.setFault.hand
          (((sideLaw_restore _ _ h.toOpen.sides).setFault B).setFault B).hand

theorem partLaw_vehicleState (p : List Byte) {s : State} (h : PartLaw s) : PartLaw (ownVehicleState p s).state := by
  obtain e | ⟨r, signals, f, g, e⟩ := ownVehicleState_cases p s
  · rw [e]; exact h
  · rw [e]
    have ho := partLaw_overrideSide (x := .right) (f := g) (partLaw_overrideSide (x := .left) (f := f)
      (h.congr (t := { s with signals := signals }) rfl rfl rfl rfl rfl rfl))
    unfold clearSignalStale
    split
    · exact ho.gonePart.settle
    · exact ho.settle

/-- A change of the settings of a side: nothing that the law looks at. -/
theorem partLaw_settings {s : State} {x : Side} {f : SideState → SideState} (h : PartLaw s)
    (ha : s.link.part = .active) (hf : sideLaw s.link.part s.timing.framePeriod x (s.side x) →
      sideLaw s.link.part s.timing.framePeriod x (f (s.side x))) : PartLaw (s.onSide x f) :=
  h.sidesOnly ha (SidesOnly.refl s).onSide (h.toOpen.sides.onSide hf)

theorem partLaw_endInspectSide {s : State} {x : Side} (h : PartLaw s) : PartLaw (endInspectSide s x) := by
  unfold endInspectSide
  split
  · next hi =>
    refine partLaw_geometry h fun hv => ?_
    have ⟨_, _, _, _, _, _, _, _, _, ho, _⟩ := h.idle hv
    simp [ho] at hi
  · exact h

/-- The overrides and the INSPECT timer of a side are as before where only windows, bounds and presets change. -/
theorem sideLaw_geometry {part : PartState} {period : Nat} {x : Side} {d : SideState} {g : Geometry}
    (ho : g.overrides = d.geometry.overrides) (ht : g.inspectTimer = d.geometry.inspectTimer)
    (h : sideLaw part period x d) : sideLaw part period x { d with geometry := g } := by
  obtain ⟨h1, h2, h3⟩ := h
  refine ⟨h1, fun hv => ?_, h3⟩
  have hi := h2 hv
  unfold idleSide at hi ⊢
  simp only [ho, ht]
  exact hi

theorem sideLaw_applySide {part : PartState} {period : Nat} (x : Side) (p : SideProfile) {y : Side} {d : SideState}
    (h : sideLaw part period y d) : sideLaw part period y (applySide x p d) := h

theorem partLaw_applyProfile {s : State} (p : Profile) (h : PartLaw s) (ha : s.link.part = .active) :
    PartLaw (applyProfile p s) :=
  h.ofActive ha rfl (Sides.both (sideLaw_applySide _ _ (h.side .left)) (sideLaw_applySide _ _ (h.side .right)))

theorem partLaw_modify {s : State} (h : PartLaw s) (ha : s.link.part = .active) (shut : Bool) (w : StoreWork) :
    PartLaw (modify shut w s).state :=
  have hst : ∀ st, PartLaw { s with store := st } := fun _ => h.ofActive ha rfl (h.toOpen.sides.congr rfl rfl)
  modify_keeps h (hst _) (fun _ => hst _) shut w

theorem partLaw_setTiming {s : State} (t : Timing) (h : PartLaw s) (ha : s.link.part = .active)
    (hl : s.left.sup.view = .off) (hr : s.right.sup.view = .off) : PartLaw { s with timing := clampTiming t } :=
  h.ofActive ha rfl (Sides.both (((h.side .left).off hl).law _ _) (((h.side .right).off hr).law _ _))

theorem partLaw_own (k : RequestKind) (tag : Byte) (p : List Byte) {s : State} (hset : inRequestSet s k = true)
    (h : PartLaw s) : PartLaw (ownerOf k tag p s).state := by
  have act : (k ≠ .status ∧ k ≠ .identify ∧ k ≠ .wake ∧ k ≠ .reset) → s.link.part = .active :=
    inRequestSet_active hset
  have fold : ∀ {α : Type} {f : State → α → State} (l : List α), s.link.part = .active →
      (∀ u a, SidesOnly u (f u a)) → (∀ u a, PartLaw u → u.link.part = .active → PartLaw (f u a)) →
      PartLaw (l.foldl f s) := fun l ha hs hf => partLaw_foldl hs hf l h ha
  cases k with
  | status => exact h
  | identify => exact h
  | wake => exact partLaw_wakeRequested h
  | reset =>
    obtain e | e := ownReset_cases tag s
    · exact e.symm ▸ h.wakes s.link.pendingWake s.link.wakeLine (some tag)
    · exact e.symm ▸ partLaw_volatileReset s
  | readGlare => exact (ownReadGlare_state p s).symm ▸ h
  | storeRead => exact (ownStoreRead_state p s).symm ▸ h
  | readHealth => exact h.congr rfl rfl rfl rfl rfl rfl
  | fetchReports => exact h.congr rfl rfl rfl rfl rfl rfl
  | startView =>
    obtain e | ⟨sides, hn, hv, e⟩ := ownStartView_cases p s
    · exact e.symm ▸ h
    · exact e.symm ▸ partLaw_startSides hn h (act (by decide)) hv
  | stopView =>
    obtain e | ⟨sides, e⟩ := ownStopView_cases p s
    · exact e.symm ▸ h
    · exact e.symm ▸ (fold sides (act (by decide)) (fun u _ => (SidesOnly.refl u).stopIfRunning)
        fun _ _ => partLaw_stopIfRunning).settle
  | setTiming =>
    obtain e | ⟨t, hl, hr, e⟩ := ownSetTiming_cases p s
    · exact e.symm ▸ h
    · exact e.symm ▸ partLaw_setTiming t h (act (by decide)) hl hr
  | vehicleState => exact partLaw_vehicleState p h
  | adjustView =>
    obtain e | ⟨x, wide, _, _, _, -, e⟩ := ownAdjustView_cases p s
    · exact e.symm ▸ h
    · exact e.symm ▸ partLaw_settings h (act (by decide))
        (sideLaw_geometry (by cases wide <;> rfl) (by cases wide <;> rfl))
  | inspect =>
    obtain e | ⟨x, _, _, hv, e⟩ := ownInspect_cases p s
    · exact e.symm ▸ h
    · exact e.symm ▸ partLaw_geometry h hv
  | endInspect =>
    obtain e | ⟨sides, e⟩ := ownEndInspect_cases p s
    · exact e.symm ▸ h
    · exact e.symm ▸ fold sides (act (by decide)) (fun u _ => (SidesOnly.refl u).endInspectSide)
        fun _ _ hu _ => partLaw_endInspectSide hu
  | setGlare =>
    obtain e | ⟨_, sides, e⟩ := ownSetGlare_cases p s
    · exact e.symm ▸ h
    · exact e.symm ▸ fold sides (act (by decide)) (fun u _ => (SidesOnly.refl u).onSide)
        fun _ _ hu ha => partLaw_settings hu ha id
  | setTone =>
    obtain e | ⟨_, sides, e⟩ := ownSetTone_cases p s
    · exact e.symm ▸ h
    · exact e.symm ▸ fold sides (act (by decide)) (fun u _ => (SidesOnly.refl u).onSide)
        fun _ _ hu ha => partLaw_settings hu ha id
  | setExposureLimits =>
    obtain e | ⟨_, sides, e⟩ := ownSetExposureLimits_cases p s
    · exact e.symm ▸ h
    · exact e.symm ▸ fold sides (act (by decide)) (fun u _ => (SidesOnly.refl u).onSide)
        fun _ _ hu ha => partLaw_settings hu ha id
  | readCounters =>
    obtain e | ⟨sides, e⟩ := ownReadCounters_cases p s
    · exact e.symm ▸ h
    · exact e.symm ▸ fold sides (act (by decide)) (fun u _ => (SidesOnly.refl u).onSide)
        fun _ _ hu ha => partLaw_settings hu ha id
  | restoreView => exact partLaw_restoreView p h (act (by decide))
  | storeUnlock =>
    obtain e | e := ownStoreUnlock_cases s
    · exact e.symm ▸ h
    · exact e.symm ▸ h.ofActive (act (by decide)) rfl (h.toOpen.sides.congr rfl rfl)
  | storeProtect =>
    obtain e | ⟨b, e⟩ := ownStoreProtect_cases p s
    · exact e.symm ▸ h
    · exact e.symm ▸ h.ofActive (act (by decide)) rfl (h.toOpen.sides.congr rfl rfl)
  | storeWrite =>
    obtain e | ⟨shut, w, e⟩ := ownStoreWrite_cases p s
    · exact e.symm ▸ h
    · exact e.symm ▸ partLaw_modify h (act (by decide)) shut w
  | storeErase =>
    obtain e | ⟨shut, w, e⟩ := ownStoreErase_cases p s
    · exact e.symm ▸ h
    · exact e.symm ▸ partLaw_modify h (act (by decide)) shut w
  | storeLockFactory => exact partLaw_modify h (act (by decide)) _ _
  | saveProfile =>
    obtain e | ⟨shut, w, e⟩ := ownSaveProfile_cases p s
    · exact e.symm ▸ h
    · exact e.symm ▸ partLaw_modify h (act (by decide)) shut w
  | loadProfile =>
    obtain e | ⟨q, e⟩ := ownLoadProfile_cases p s
    · exact e.symm ▸ h
    · exact e.symm ▸ partLaw_applyProfile _ h (act (by decide))
  | standby => exact partLaw_standby h (act (by decide))

/-- Every command keeps the part law. -/
theorem partLaw_kept : Kept PartLaw where
  frame s l _ _ _ _ hl h := (partLaw_iff _).2
    ⟨⟨by
      change Sides (sideLaw l.part s.timing.framePeriod) _
      rw [hl.part]
      exact h.toOpen.sides.congr rfl rfl,
      by change l.initTimer.isSome = (l.part == .init); rw [hl.part, hl.initTimer]; exact h.toOpen.link.init,
      by change l.wakeTimer.isSome = true → l.part = _; rw [hl.part, hl.wakeTimer]; exact h.toOpen.link.wake,
      hl.lost h.toOpen.link.lost⟩,
      by change s.powered = true → l.part = _ → _; rw [hl.part]; exact h.busy⟩
  tick s _ h := h.congr rfl rfl rfl rfl rfl rfl
  powerOn s := partLaw_powerOn s
  powerLoss _ h := partLaw_losePower h
  initCompletion w _ _ hd h := partLaw_initCompleted w hd h
  vsync _ _ _ hd h := partLaw_vsyncExpired hd h
  camTrigger _ s _ hd h := h.running (h.running_of_due (.inr (.inl hd))) (SidesOnly.refl s).camExpired.settle fun hs =>
    have F := free_runningLaw _ s.link.part s.timing.framePeriod
    (hs.camExpired F).settle F.toBlind
  frameStart _ _ _ _ _ _ h := partLaw_frameStart h
  line _ _ _ _ h := partLaw_lineArrived h
  frameEnd _ _ _ h := partLaw_frameEnd h
  linkLost _ s _ hd h := h.running (h.running_of_due (.inr (.inr (.inl hd)))) (SidesOnly.refl s).linkLostExpired
    fun hs => hs.linkLostExpired (free_runningLaw _ _ _)
  exposureTaken _ _ _ h := partLaw_takeExposure h
  glareTaken _ _ _ h := partLaw_takeGlare h
  dispatch _ _ _ h := partLaw_dispatch h
  acknowledged _ _ _ h := partLaw_acknowledged h
  failed _ _ _ h := partLaw_failed h
  echo _ _ _ _ _ _ h := partLaw_echoArrived h
  echoByte _ _ _ _ h := partLaw_echoByte h
  echoTimer _ _ _ hd h := partLaw_raised h (h.running_of_due (.inr (.inr (.inr (.inl hd))))) {}
  echoIdle _ _ _ h := partLaw_receiver h [] none
  startTimer _ _ _ hd h := partLaw_raised h (h.running_of_due (.inr (.inr (.inr (.inr (.inl hd)))))) {}
  freshness sig _ _ h := partLaw_freshness sig h
  inspect _ _ _ hd h := partLaw_geometry h (h.running_of_due (.inr (.inr (.inr (.inr (.inr hd))))))
  wakeTimer _ _ hd h := partLaw_wakeExpired hd h
  wakeLine _ _ h := partLaw_wakeLineRises h
  sample supply temperature _ _ _ h := partLaw_sampleArrived supply temperature h
  savePhase o _ _ _ h := partLaw_advancePhase o h
  storeDone _ _ _ _ h := (openLaw_deferredReset (h.toOpen.store _)).endQuiescing
  deferredReset _ _ h := partLaw_deferredReset h
  endQuiescing _ _ h := h.toOpen.endQuiescing
  own k tag p _ _ hset h := partLaw_own k tag p hset h

/-- Settles O12: the part law and the sample schedule are each kept by every command. -/
theorem stepsKeepThePartLaw : Obligations.StepsKeepThePartLaw :=
  ⟨fun _ _ h e => partLaw_kept.step h e, fun _ _ h e => sampleLaw_kept.step h e⟩

end Sys2Proof.Machine

/-! # Windows and settings: every step keeps them sound

A geometry is sound where its windows in force are resolved from sound parts, so each operation of the view geometry is
a change of those parts and a resolution. Settings enter a side only through the corrections of their rules. -/

namespace Sys2Proof.Machine

/-! ## Sound geometries -/

/-- A window that is valid and lies inside bounds. -/
def soundIn (b w : Window) : Prop := validWindow w = true ∧ inside b w = true

/-- The parts of a sound geometry that a resolution does not change. -/
structure SoundParts (g : Geometry) : Prop where
  bounds : validWindow g.bounds = true
  curb : validWindow g.curb = true
  axle : validWindow g.axle = true
  maneuver : validWindow g.maneuver = true
  baseMain : soundIn g.bounds g.baseMain
  baseWide : soundIn g.bounds g.baseWide
  mainShown : soundIn g.bounds g.mainShown
  wideShown : soundIn g.bounds g.wideShown

theorem resolveMain_sound {g : Geometry} (x : Side) (hb : validWindow g.bounds = true) :
    soundIn g.bounds (resolveMain x g) := by
  unfold resolveMain
  split
  · exact clampAt_sound hb _ _ _ _
  · exact clampWindow_sound hb _

theorem resolveWide_sound {g : Geometry} (hb : validWindow g.bounds = true) : soundIn g.bounds (resolveWide g) :=
  clampWindow_sound hb _

/-- Sound geometries are those of sound parts with the windows in force resolved. -/
theorem geometrySound_iff (x : Side) (g : Geometry) :
    geometrySound x g ↔ SoundParts g ∧ g.mainInForce = resolveMain x g ∧ g.wideInForce = resolveWide g := by
  constructor
  · rintro ⟨h1, h2, h3, h4, hw, hm, hf⟩
    exact ⟨⟨h1, h2, h3, h4, hw _ (by simp), hw _ (by simp), hw _ (by simp), hw _ (by simp)⟩, hm, hf⟩
  · rintro ⟨p, hm, hf⟩
    refine ⟨p.bounds, p.curb, p.axle, p.maneuver, ?_, hm, hf⟩
    have h1 := hm ▸ resolveMain_sound x p.bounds
    have h2 := hf ▸ resolveWide_sound p.bounds
    simp only [List.mem_cons, List.not_mem_nil, or_false, forall_eq_or_imp, forall_eq]
    exact ⟨p.baseMain, p.baseWide, h1, h2, p.mainShown, p.wideShown⟩

/-- A resolution makes a geometry of sound parts sound. -/
theorem SoundParts.resolve {g : Geometry} (p : SoundParts g) (x : Side) : geometrySound x (resolve x g) :=
  have ⟨h1, h2, h3, h4, h5, h6, h7, h8⟩ := p
  (geometrySound_iff x _).2 ⟨⟨h1, h2, h3, h4, h5, h6, h7, h8⟩, rfl, rfl⟩

theorem soundParts {x : Side} {g : Geometry} (h : geometrySound x g) : SoundParts g := ((geometrySound_iff x g).1 h).1

/-- The windows in force of a sound geometry. -/
theorem inForce_sound {x : Side} {g : Geometry} (h : geometrySound x g) :
    soundIn g.bounds g.mainInForce ∧ soundIn g.bounds g.wideInForce := by
  obtain ⟨p, hm, hf⟩ := (geometrySound_iff x g).1 h
  exact ⟨hm ▸ resolveMain_sound x p.bounds, hf ▸ resolveWide_sound p.bounds⟩

/-- Another override list and another INSPECT timer, and a resolution. -/
theorem geometrySound_overrides {x : Side} {g : Geometry} (h : geometrySound x g) (o : Overrides) (timer : Timer) :
    geometrySound x (resolve x { g with overrides := o, inspectTimer := timer }) := by
  obtain ⟨h1, h2, h3, h4, h5, h6, h7, h8⟩ := soundParts h
  exact SoundParts.resolve (g := { g with overrides := o, inspectTimer := timer }) ⟨h1, h2, h3, h4, h5, h6, h7, h8⟩ x

theorem geometrySound_setOverrides {x : Side} {g : Geometry} (h : geometrySound x g) (o : Overrides) :
    geometrySound x (setOverrides x o g) := by
  obtain ⟨-, hm, hf⟩ := (geometrySound_iff x g).1 h
  rw [setOverrides_eq o hm hf]
  exact geometrySound_overrides h o g.inspectTimer

/-- The displayed windows at those in force (R112, log 17). -/
theorem geometrySound_shown {x : Side} {g : Geometry} (h : geometrySound x g) :
    geometrySound x { g with mainShown := g.mainInForce, wideShown := g.wideInForce } := by
  obtain ⟨h1, h2, h3, h4, h5, h6, -, -⟩ := soundParts h
  obtain ⟨-, hm, hf⟩ := (geometrySound_iff x g).1 h
  obtain ⟨i1, i2⟩ := inForce_sound h
  exact (geometrySound_iff x _).2 ⟨⟨h1, h2, h3, h4, h5, h6, i1, i2⟩, hm, hf⟩

theorem slewWindow_valid {v t : Window} (hv : validWindow v = true) (ht : validWindow t = true) :
    validWindow (slewWindow v t) = true := by
  obtain ⟨⟨v1, v2, v3, v4⟩, v5, v6, v7, v8⟩ := (validWindow_iff v).1 hv
  obtain ⟨⟨t1, t2, t3, t4⟩, t5, t6, t7, t8⟩ := (validWindow_iff t).1 ht
  have size : ∀ {a b : Nat}, 2 ≤ a → 2 ≤ b → 2 ≤ slewValue a b := by
    intro a b ha hb
    rcases slewValue_cases a b with ⟨_, _, h⟩ | ⟨_, h⟩ | ⟨_, h⟩ <;> omega
  have even := (⟨slewValue_even v1 t1, slewValue_even v2 t2, slewValue_even v3 t3, slewValue_even v4 t4⟩ :
    _ ∧ _ ∧ _ ∧ _)
  exact (validWindow_iff _).2 ⟨even, size v5 t5, size v6 t6, (slewValue_inside (Nat.zero_le _) v7 (Nat.zero_le _) t7).2,
    (slewValue_inside (Nat.zero_le _) v8 (Nat.zero_le _) t8).2⟩

theorem geometrySound_slew {x : Side} {g : Geometry} (h : geometrySound x g) : geometrySound x (slew g) := by
  obtain ⟨h1, h2, h3, h4, h5, h6, h7, h8⟩ := soundParts h
  obtain ⟨-, hm, hf⟩ := (geometrySound_iff x g).1 h
  obtain ⟨i1, i2⟩ := inForce_sound h
  have slewed : ∀ {v t}, soundIn g.bounds v → soundIn g.bounds t → soundIn g.bounds (slewWindow v t) :=
    fun hv ht => ⟨slewWindow_valid hv.1 ht.1, slewWindow_inside hv.2 ht.2⟩
  exact (geometrySound_iff x _).2 ⟨⟨h1, h2, h3, h4, h5, h6, slewed h7 i1, slewed h8 i2⟩, hm, hf⟩

theorem geometrySound_setBase {x : Side} {g : Geometry} (h : geometrySound x g) (wide : Bool) {w : Window}
    (hw : soundIn g.bounds w) : geometrySound x (setBase x wide w g) := by
  obtain ⟨h1, h2, h3, h4, h5, h6, h7, h8⟩ := soundParts h
  cases wide with
  | true => exact SoundParts.resolve (g := { g with baseWide := w }) ⟨h1, h2, h3, h4, h5, hw, h7, h8⟩ x
  | false => exact SoundParts.resolve (g := { g with baseMain := w }) ⟨h1, h2, h3, h4, hw, h6, h7, h8⟩ x

theorem geometrySound_setBounds {x : Side} {g : Geometry} (h : geometrySound x g) {b : Window}
    (hb : validWindow b = true) (markers : List (Option Nat)) : geometrySound x (setBounds x b markers g) := by
  obtain ⟨-, h2, h3, h4, -⟩ := soundParts h
  exact SoundParts.resolve (g := { g with
      bounds := b, markers := markers,
      baseMain := clampWindow b g.baseMain, baseWide := clampWindow b g.baseWide,
      mainShown := clampWindow b g.mainShown, wideShown := clampWindow b g.wideShown })
    ⟨hb, h2, h3, h4, clampWindow_sound hb _, clampWindow_sound hb _, clampWindow_sound hb _,
      clampWindow_sound hb _⟩ x

/-! ## Corrected settings -/

theorem clampNat_range {lo hi : Nat} (v : Nat) (h : lo ≤ hi := by decide) :
    lo ≤ clampNat lo hi v ∧ clampNat lo hi v ≤ hi := by
  unfold clampNat
  split
  · omega
  · split <;> omega

theorem clampInt_range {lo hi : Int} (v : Int) (h : lo ≤ hi := by decide) :
    lo ≤ clampInt lo hi v ∧ clampInt lo hi v ≤ hi := by
  unfold clampInt
  split
  · omega
  · split <;> omega

theorem clampGlare_inRange (g : GlareSettings) : glareInRange (clampGlare g) :=
  ⟨clampNat_range _, clampNat_range _, (clampNat_range (lo := 0) (hi := 50) _).2, clampNat_range _,
    clampNat_range _, clampNat_range _, clampNat_range _⟩

theorem correctLimits_inRange (l : ExposureLimits) : limitsInRange (correctLimits l) := by
  have h1 := clampNat_range (lo := 1) (hi := 4096) l.emin
  have h2 := clampNat_range (lo := 1) (hi := 4096) l.emax
  have h3 := clampNat_range (lo := 1) (hi := 4096) l.eOn
  have h4 := clampNat_range (lo := 1) (hi := 4096) l.eOff
  have h5 := clampNat_range (lo := 1000) (hi := 400000) l.target
  unfold limitsInRange correctLimits
  dsimp only
  refine ⟨?_, ?_, h2.2, h5, ?_, ?_, ?_⟩ <;> split_ifs <;> omega

theorem correctThresholds_inRange (t : Thresholds) : thresholdsInRange (correctThresholds t) := by
  have h1 := clampNat_range (lo := 2600) (hi := 3400) t.supplyLow
  have h2 := clampNat_range (lo := 2500) (hi := 3300) t.supplyCrit
  have h3 := clampInt_range (lo := 70) (hi := 130) t.tempHigh
  have h4 := clampInt_range (lo := 80) (hi := 140) t.tempCrit
  unfold thresholdsInRange correctThresholds
  dsimp only
  refine ⟨h1, ?_, h3, ?_, ?_, ?_⟩ <;> split_ifs <;> omega

theorem raiseEntries_length (b : Nat) (l : List Nat) : (raiseEntries b l).length = l.length := by
  induction l generalizing b with
  | nil => rfl
  | cons t l ih => simp [raiseEntries, ih]

/-- Raised entries lie above the one before them and no higher than any bound of it and of the entries. -/
theorem raiseEntries_bounds {b top : Nat} {l : List Nat} (hb : b ≤ top) (hl : ∀ t ∈ l, t ≤ top) :
    ∀ v ∈ raiseEntries b l, b ≤ v ∧ v ≤ top := by
  induction l generalizing b with
  | nil => simp [raiseEntries]
  | cons t l ih =>
    obtain ⟨ht, hl⟩ := List.forall_mem_cons.1 hl
    have hm : max b t ≤ top := max_le hb ht
    intro v hv
    rcases List.mem_cons.1 hv with rfl | hv
    · exact ⟨le_max_left _ _, hm⟩
    · have := ih hm hl v hv
      exact ⟨(le_max_left _ _).trans this.1, this.2⟩

theorem raiseEntries_pairwise (b : Nat) (l : List Nat) : (raiseEntries b l).Pairwise (· ≤ ·) := by
  induction l generalizing b with
  | nil => exact List.Pairwise.nil
  | cons t l ih =>
    refine List.pairwise_cons.2 ⟨fun v hv => ?_, ih _⟩
    have hmax : ∀ u ∈ l, u ≤ max (max b t) (l.foldr max 0) := fun u hu =>
      le_max_of_le_right (List.le_max_of_le hu le_rfl)
    exact (raiseEntries_bounds (le_max_left _ _) hmax v hv).1

theorem correctTable_toneTable {t : List Nat} (h : t.length = 65) : toneTable (correctTable t) := by
  refine ⟨by simp [correctTable, raiseEntries_length, h], fun v hv => ?_, raiseEntries_pairwise _ _⟩
  refine (raiseEntries_bounds (Nat.zero_le 1023) (fun u hu => ?_) v hv).2
  obtain ⟨w, -, rfl⟩ := List.mem_map.1 hu
  exact min_le_left _ _

theorem rebuildTable_length (first : Nat) (l : List Nat) : (rebuildTable first l).length = l.length + 1 := by
  induction l generalizing first with
  | nil => rfl
  | cons s l ih => simp [rebuildTable, ih]

theorem correctSide_inRange {b : Window} (hb : validWindow b = true) {p : SideProfile} (hp : p.table.length = 65) :
    sideInRange (correctSide b p) :=
  ⟨(clampWindow_sound hb _).1, (clampWindow_sound hb _).1, areaWindow_valid _, areaWindow_valid _, areaWindow_valid _,
    (clampNat_range (lo := 0) (hi := 64) _).2, clampNat_range _, correctTable_toneTable hp, clampGlare_inRange _,
    correctLimits_inRange _, clampNat_range _, clampNat_range _, clampNat_range _⟩

theorem defaultTable_toneTable : toneTable defaultToneTable := by
  unfold toneTable
  decide

theorem defaultGlare_inRange : glareInRange defaultGlare := by
  unfold glareInRange
  decide

theorem defaultLimits_inRange : limitsInRange defaultLimits := by
  unfold limitsInRange
  decide

theorem defaultThresholds_inRange : thresholdsInRange defaultThresholds := by
  unfold thresholdsInRange
  decide

theorem defaultSide_inRange {b : Window} (hb : validWindow b = true) : sideInRange (defaultSide b) :=
  ⟨hb, hb, hb, hb, hb, (by decide : 12 ≤ 64), (by decide : 64 ≤ 256 ∧ 256 ≤ 1024), defaultTable_toneTable,
    defaultGlare_inRange, defaultLimits_inRange, (by decide : 1 ≤ 3 ∧ 3 ≤ 15), (by decide : 20 ≤ 50 ∧ 50 ≤ 200),
    (by decide : 1 ≤ 20 ∧ 20 ≤ 50)⟩

/-! ## The law of a side -/

/-- Sound windows and settings in their ranges. -/
def SideSound (x : Side) (d : SideState) : Prop := geometrySound x d.geometry ∧ sideInRange (sideSettings d)

theorem free_sideSound (x : Side) : Free x SideSound where
  faults _ h := h
  settled _ h := h
  counters _ h := h
  core c h := by unfold SideSound; rw [c.geometry, c.settings]; exact h

/-- A sound change of the geometry that keeps base windows, presets and pan gain. -/
theorem SideSound.geometry {x : Side} {d : SideState} (h : SideSound x d) {g : Geometry} (hg : geometrySound x g)
    (hs : sideSettings { d with geometry := g } = sideSettings d) : SideSound x { d with geometry := g } :=
  ⟨hg, by rw [hs]; exact h.2⟩

theorem sideSettings_applySide (x : Side) (p : SideProfile) (d : SideState) : sideSettings (applySide x p d) = p := by
  unfold sideSettings applySide resolve
  dsimp only
  rw [Nat.mul_div_cancel_left _ (by decide : 0 < 1000), Nat.mul_div_cancel_left _ (by decide : 0 < 100)]

/-- A side with settings in range, whose base windows lie inside its bounds, put in force. -/
theorem sideSound_applySide {x : Side} {p : SideProfile} {d : SideState} (h : geometrySound x d.geometry)
    (hp : sideInRange p) (hm : inside d.geometry.bounds p.main = true) (hw : inside d.geometry.bounds p.wide = true) :
    SideSound x (applySide x p d) := by
  obtain ⟨h1, -, -, -, -, -, h7, h8⟩ := soundParts h
  refine ⟨?_, by rw [sideSettings_applySide]; exact hp⟩
  obtain ⟨v1, v2, v3, v4, v5, -⟩ := hp
  exact SoundParts.resolve (g := { d.geometry with
      baseMain := p.main, baseWide := p.wide, curb := p.curb, axle := p.axle, maneuver := p.maneuver,
      panGain := p.panGain }) ⟨h1, v3, v4, v5, ⟨v1, hm⟩, ⟨v2, hw⟩, h7, h8⟩ x

/-- A profile that can be put in force on a side. -/
def fitsSide (d : SideState) (p : SideProfile) : Prop :=
  sideInRange p ∧ inside d.geometry.bounds p.main = true ∧ inside d.geometry.bounds p.wide = true

theorem fitsSide_correct {x : Side} {d : SideState} (h : geometrySound x d.geometry) {p : SideProfile}
    (hp : p.table.length = 65) : fitsSide d (correctSide d.geometry.bounds p) :=
  have hb := (soundParts h).bounds
  ⟨correctSide_inRange hb hp, (clampWindow_sound hb _).2, (clampWindow_sound hb _).2⟩

theorem fitsSide_default {x : Side} {d : SideState} (h : geometrySound x d.geometry) :
    fitsSide d (defaultSide d.geometry.bounds) :=
  have hi : inside d.geometry.bounds d.geometry.bounds = true :=
    (inside_iff _ _).2 ⟨le_rfl, le_rfl, le_rfl, le_rfl⟩
  ⟨defaultSide_inRange (soundParts h).bounds, hi, hi⟩

theorem readProfile_tables (b : List Byte) :
    (readProfile b).left.table.length = 65 ∧ (readProfile b).right.table.length = 65 := by
  simp [readProfile, readSideProfile, rebuildTable_length]

/-! ## The law of the part -/

/-- The settings of the part as a whole in their ranges. -/
def DeviceLaw (timing : Timing) (t : Thresholds) : Prop :=
  thresholdsInRange t ∧ (16000 ≤ timing.framePeriod ∧ timing.framePeriod ≤ 40000) ∧
    (2000 ≤ timing.cameraLead ∧ timing.cameraLead ≤ 60000) ∧ (20 ≤ timing.tolerance ∧ timing.tolerance ≤ 2000)

/-- The law of windows and settings. -/
structure SoundLaw (s : State) : Prop where
  sides : Sides SideSound s
  device : DeviceLaw s.timing s.health.thresholds

theorem soundLaw_iff (s : State) : SoundLaw s ↔ WindowLaw s ∧ SettingsLaw s :=
  ⟨fun h => ⟨fun x => (h.sides x).1, fun x => (h.sides x).2, h.device⟩,
    fun h => ⟨fun x => ⟨h.1 x, h.2.1 x⟩, h.2.2⟩⟩

theorem SoundLaw.sidesOnly {s t : State} (h : SoundLaw s) (f : SidesOnly s t) (hd : Sides SideSound t) : SoundLaw t :=
  ⟨hd, by rw [f.timing, f.health]; exact h.device⟩

/-- Signals, link, store and record change nothing that the law looks at. -/
theorem SoundLaw.congr {s t : State} (h : SoundLaw s) (hl : t.left = s.left) (hr : t.right = s.right)
    (ht : t.timing = s.timing) (hh : t.health.thresholds = s.health.thresholds) : SoundLaw t :=
  ⟨h.sides.congr hl hr, by rw [ht, hh]; exact h.device⟩

theorem resetGeometry_sound (x : Side) : geometrySound x resetGeometry := by
  have hi : soundIn resetGeometry.bounds fullArea := ⟨by decide, by decide⟩
  refine (geometrySound_iff _ _).2 ⟨⟨by decide, by decide, by decide, by decide, hi, hi, hi, hi⟩, ?_, by decide⟩
  cases x <;> decide

theorem sideSound_reset (x : Side) : SideSound x resetSide :=
  ⟨resetGeometry_sound x, defaultSide_inRange fullArea_valid⟩

theorem soundLaw_volatileReset (s : State) : SoundLaw (volatileReset s) :=
  ⟨Sides.both (sideSound_reset _) (sideSound_reset _), defaultThresholds_inRange,
    (by decide : 16000 ≤ 16667 ∧ 16667 ≤ 40000), (by decide : 2000 ≤ 19000 ∧ 19000 ≤ 60000),
    (by decide : 20 ≤ 100 ∧ 100 ≤ 2000)⟩

theorem soundLaw_deferredReset {s : State} (h : SoundLaw s) : SoundLaw (deferredReset s) := by
  unfold deferredReset
  split
  · exact h
  · split
    · exact h
    · unfold makeReset
      rw [placeReply_eq]
      exact (soundLaw_volatileReset s).congr rfl rfl rfl rfl

theorem soundLaw_endQuiescing {s : State} (h : SoundLaw s) : SoundLaw (endQuiescing s) := by
  rw [endQuiescing_eq]
  exact h.congr rfl rfl rfl rfl

theorem SoundLaw.settle {s : State} (h : SoundLaw s) : SoundLaw (settle s) :=
  h.sidesOnly (SidesOnly.refl s).settle (h.sides.settle (free_sideSound .left).toBlind)

theorem SoundLaw.submit {s : State} {x : Side} {t : Transaction} (h : SoundLaw s) : SoundLaw (submit x t s) :=
  h.sidesOnly (SidesOnly.refl s).submit (h.sides.submitted (free_sideSound x))

theorem SoundLaw.raisePart {s : State} {k : FaultKind} (h : SoundLaw s) : SoundLaw (raisePart k s) :=
  h.sidesOnly (SidesOnly.refl s).raisePart (h.sides.raisePart (free_sideSound .left).toBlind)

theorem SoundLaw.gonePart {s : State} {k : FaultKind} (h : SoundLaw s) : SoundLaw (gonePart k s) :=
  h.sidesOnly (SidesOnly.refl s).gonePart (h.sides.gonePart (free_sideSound .left).toBlind)

/-- A change of one side that keeps it sound. -/
theorem SoundLaw.onSide {s : State} {x : Side} {f : SideState → SideState} (h : SoundLaw s)
    (hf : SideSound x (s.side x) → SideSound x (f (s.side x))) : SoundLaw (s.onSide x f) :=
  h.sidesOnly (SidesOnly.refl s).onSide (h.sides.onSide hf)

/-- What each member of a list keeps, the list keeps. -/
theorem soundLaw_foldl {α : Type} {f : State → α → State} (hf : ∀ u a, SoundLaw u → SoundLaw (f u a))
    (l : List α) {s : State} (h : SoundLaw s) : SoundLaw (l.foldl f s) := by
  induction l generalizing s with
  | nil => exact h
  | cons a l ih => exact ih (hf s a h)

/-! ## Views, overrides and signals -/

theorem soundLaw_startSide {s : State} {x : Side} (h : SoundLaw s) : SoundLaw (startSide s x) := by
  have F := free_sideSound x
  refine h.sidesOnly (SidesOnly.refl s).startSide (Sides.submitted F (Sides.setView F (h.sides.onSide ?_) ?_))
  · rintro ⟨hg, hp⟩
    exact ⟨geometrySound_shown (geometrySound_overrides hg _ _), hp⟩
  · unfold startView; split <;> decide

theorem soundLaw_startIfOff {s : State} {x : Side} (h : SoundLaw s) : SoundLaw (startIfOff s x) := by
  unfold startIfOff
  split
  · exact soundLaw_startSide h
  · exact h

theorem soundLaw_stopSide {s : State} {x : Side} (h : SoundLaw s) : SoundLaw (stopSide s x) :=
  h.sidesOnly (SidesOnly.refl s).stopSide (stopSide_sides (fun y _ => h.sides y) fun _ _ =>
    have ⟨hg, hp⟩ := h.sides x
    ⟨geometrySound_overrides hg _ _, hp⟩)

theorem soundLaw_stopIfRunning {s : State} {x : Side} (h : SoundLaw s) : SoundLaw (stopIfRunning s x) := by
  unfold stopIfRunning
  split
  · exact h
  · exact soundLaw_stopSide h

theorem soundLaw_standbySide {s : State} {x : Side} (h : SoundLaw s) : SoundLaw (standbySide s x) := by
  unfold standbySide
  split
  · exact h.submit
  · exact soundLaw_stopSide h

/-- The settings of a side hang on base windows, presets and pan gain, not on overrides and timers. -/
theorem sideSettings_setOverrides (x : Side) (o : Overrides) (timer : Timer) (d : SideState) :
    sideSettings { d with geometry := { setOverrides x o d.geometry with inspectTimer := timer } } =
      sideSettings d := by
  unfold setOverrides
  split <;> rfl

theorem sideSound_setOverrides {x : Side} {d : SideState} (o : Overrides) (timer : Timer) (h : SideSound x d) :
    SideSound x { d with geometry := { setOverrides x o d.geometry with inspectTimer := timer } } :=
  h.geometry (geometrySound_setOverrides h.1 o) (sideSettings_setOverrides x o timer d)

theorem soundLaw_overrideSide {s : State} {x : Side} {f : Geometry → Overrides} (h : SoundLaw s) :
    SoundLaw (overrideSide x f s) := by
  unfold overrideSide
  split
  · exact h
  · refine h.onSide fun hx => hx.geometry (geometrySound_setOverrides hx.1 _) ?_
    unfold setOverrides
    split <;> rfl

theorem soundLaw_endInspectSide {s : State} {x : Side} (h : SoundLaw s) : SoundLaw (endInspectSide s x) := by
  unfold endInspectSide
  split
  · exact h.onSide (sideSound_setOverrides _ _)
  · exact h

theorem soundLaw_freshness (sig : Signal) {s : State} (h : SoundLaw s) : SoundLaw (freshnessExpired sig s) := by
  have ho := soundLaw_overrideSide (x := .right) (f := fun g => staleOverrides sig g.overrides)
    (soundLaw_overrideSide (x := .left) (f := fun g => staleOverrides sig g.overrides)
      (h.congr (t := { s with signals := makeStale sig s.signals }) rfl rfl rfl rfl))
  unfold freshnessExpired
  dsimp only
  split
  · exact ho.raisePart.settle
  · exact ho.settle

theorem soundLaw_vehicleState (p : List Byte) {s : State} (h : SoundLaw s) : SoundLaw (ownVehicleState p s).state := by
  obtain e | ⟨r, signals, f, g, e⟩ := ownVehicleState_cases p s
  · rw [e]; exact h
  · rw [e]
    have ho := soundLaw_overrideSide (x := .right) (f := g) (soundLaw_overrideSide (x := .left) (f := f)
      (h.congr (t := { s with signals := signals }) rfl rfl rfl rfl))
    unfold clearSignalStale
    split
    · exact ho.gonePart.settle
    · exact ho.settle

theorem soundLaw_vsyncExpired {s : State} {x : Side} (h : SoundLaw s) : SoundLaw (vsyncExpired x s) := by
  refine h.sidesOnly (SidesOnly.refl s).vsyncExpired ?_
  have F := free_sideSound x
  unfold vsyncExpired
  split
  · exact h.sides.core F
  · exact h.sides.showFrame F fun hx => ⟨geometrySound_slew hx.1, hx.2⟩

/-! ## The part states -/

theorem soundLaw_wakeExpired {s : State} (h : SoundLaw s) : SoundLaw (wakeExpired s) := by
  have hl : SoundLaw { s with link := { s.link with part := .active, wakeTimer := none, pendingWake := none } } :=
    h.congr rfl rfl rfl rfl
  unfold wakeExpired
  dsimp only
  split
  · exact soundLaw_startSide (soundLaw_startSide hl)
  · exact hl

theorem soundLaw_wakeLineRises {s : State} (h : SoundLaw s) : SoundLaw (wakeLineRises s) := by
  have hl : SoundLaw (setWakeLine true s) := h.congr rfl rfl rfl rfl
  unfold wakeLineRises wakeEdge
  dsimp only
  repeat' split
  · exact hl
  · exact hl
  · exact soundLaw_startIfOff (soundLaw_startIfOff hl)
  · exact hl.congr rfl rfl rfl rfl
  · exact hl.congr rfl rfl rfl rfl
  · exact hl.congr rfl rfl rfl rfl

theorem SoundLaw.calibrated {s : State} {bl br : Window} (hl : validWindow bl = true) (hr : validWindow br = true)
    (ml mr : List (Option Nat)) (c : Word16) (h : SoundLaw s) : SoundLaw (s.calibrated bl br ml mr c) := by
  have hb : ∀ {u : State} {x b m}, validWindow b = true → SoundLaw u → SoundLaw (boundSide x b m u) := fun hv hu =>
    hu.onSide fun hx => by
      refine ⟨geometrySound_setBounds hx.1 hv _, ?_⟩
      obtain ⟨_, _, h3⟩ := hx.2
      exact ⟨(clampWindow_sound hv _).1, (clampWindow_sound hv _).1, h3⟩
  exact (hb hr (hb hl h)).congr rfl rfl rfl rfl

theorem soundLaw_initCalibration {s : State} (h : SoundLaw s) : SoundLaw (initCalibration s) := by
  obtain ⟨bl, br, ml, mr, c, u, hl, hr, hu, e⟩ := initCalibration_cases s
  rw [e]
  obtain rfl | rfl := hu
  · exact h.calibrated hl hr _ _ _
  · exact h.raisePart.calibrated hl hr _ _ _

/-- A profile that fits both sides and whose thresholds are in range. -/
def fitsPart (s : State) (p : Profile) : Prop :=
  fitsSide s.left p.left ∧ fitsSide s.right p.right ∧ thresholdsInRange p.thresholds

theorem fitsPart_correct {s : State} (h : SoundLaw s) (b : List Byte) :
    fitsPart s (correctProfile s (readProfile b)) :=
  ⟨fitsSide_correct (h.sides .left).1 (readProfile_tables b).1,
    fitsSide_correct (h.sides .right).1 (readProfile_tables b).2, correctThresholds_inRange _⟩

theorem fitsPart_default {s : State} (h : SoundLaw s) : fitsPart s (defaultProfile s) :=
  ⟨fitsSide_default (h.sides .left).1, fitsSide_default (h.sides .right).1,
    defaultThresholds_inRange⟩

theorem fitsPart_init {s : State} (h : SoundLaw s) : fitsPart s (initProfile s) := by
  unfold initProfile
  dsimp only
  split
  · exact fitsPart_default h
  · exact fitsPart_correct h _

theorem soundLaw_applyProfile {s : State} {p : Profile} (h : SoundLaw s) (hp : fitsPart s p) :
    SoundLaw (applyProfile p s) := by
  obtain ⟨⟨l1, l2, l3⟩, ⟨r1, r2, r3⟩, ht⟩ := hp
  exact ⟨Sides.both (sideSound_applySide (h.sides .left).1 l1 l2 l3)
    (sideSound_applySide (h.sides .right).1 r1 r2 r3), ht, h.device.2⟩

theorem soundLaw_loaded {s : State} {p : Profile} (h : SoundLaw s) (hp : fitsPart s p) : SoundLaw (s.loaded p) := by
  have ha := soundLaw_applyProfile h hp
  have hset : ∀ {x d}, SideSound x d → SideSound x (settleSide d) := fun hd => ⟨geometrySound_shown hd.1, hd.2⟩
  exact ⟨Sides.both (hset (ha.sides .left)) (hset (ha.sides .right)), ha.device⟩

theorem soundLaw_loadInitProfile {s : State} (h : SoundLaw s) : SoundLaw (loadInitProfile s) := by
  rw [loadInitProfile_eq]
  exact soundLaw_loaded h (fitsPart_init h)

theorem SoundLaw.setPart {s : State} (p : PartState) (h : SoundLaw s) : SoundLaw (setPart p s) :=
  h.congr rfl rfl rfl rfl

theorem soundLaw_initCompleted {s : State} (wakeHigh : Bool) (h : SoundLaw s) :
    SoundLaw (initCompleted wakeHigh s) := by
  have hs := (soundLaw_loadInitProfile (soundLaw_initCalibration
    (h.congr (t := setWakeLine wakeHigh { s with link := { s.link with initTimer := none } }) rfl rfl rfl rfl))).setPart
      .active
  unfold initCompleted startBoth streamOffBoth
  dsimp only
  split
  · exact (soundLaw_startSide (soundLaw_startSide hs)).settle
  · exact hs.submit.submit.settle

/-! ## The requests -/

theorem soundLaw_restoreView (p : List Byte) {s : State} (h : SoundLaw s) : SoundLaw (ownRestoreView p s).state := by
  have B := (free_sideSound .left).toBlind
  obtain e | ⟨selector, sides, e⟩ := ownRestoreView_cases p s
  · rw [e]; exact h
  · rw [e]
    have hr : SoundLaw (sides.foldl (restoreSide selector) s) :=
      soundLaw_foldl (fun u _ hu => hu.sidesOnly (SidesOnly.refl u).restoreSide (hu.sides.restoreSide B)) sides h
    refine SoundLaw.settle ?_
    obtain e | ⟨bl, br, ml, mr, c, u, hl, hb, hu, e⟩ :=
      rereadIfNamed_cases selector sides (sides.foldl (restoreSide selector) s)
    · rw [e]; exact hr
    · rw [e]
      refine SoundLaw.calibrated hl hb _ _ _ ?_
      obtain rfl | rfl := hu
      · exact hr
      · exact hr.sidesOnly (SidesOnly.refl _).setFault.setFault.hand ((hr.sides.setFault B).setFault B).hand

theorem soundLaw_modify {s : State} (h : SoundLaw s) (shut : Bool) (w : StoreWork) :
    SoundLaw (modify shut w s).state :=
  have hst : ∀ st, SoundLaw { s with store := st } := fun _ => h.congr rfl rfl rfl rfl
  modify_keeps h (hst _) (fun _ => hst _) shut w

theorem clampTiming_device (t : Timing) {th : Thresholds} (h : thresholdsInRange th) :
    DeviceLaw (clampTiming t) th :=
  ⟨h, clampNat_range _, clampNat_range _, clampNat_range _⟩

/-- Settings of a side set to values in their ranges, its geometry kept. -/
theorem sideSound_setTone {x : Side} {d : SideState} (key : Nat) (p : List Byte) (h : SideSound x d) :
    SideSound x { d with tone := { d.tone with key := correctKey key, table := correctTable (toneEntries p) } } := by
  obtain ⟨hg, h1, h2, h3, h4, h5, h6, -, -, h9⟩ := h
  exact ⟨hg, h1, h2, h3, h4, h5, h6, clampNat_range _, correctTable_toneTable (by simp [toneEntries]), h9⟩

theorem sideSound_setGlare {x : Side} {d : SideState} (g : GlareSettings) (h : SideSound x d) :
    SideSound x { d with glare := { d.glare with settings := clampGlare g } } := by
  obtain ⟨hg, h1, h2, h3, h4, h5, h6, h7, h8, -, h10⟩ := h
  exact ⟨hg, h1, h2, h3, h4, h5, h6, h7, h8, clampGlare_inRange g, h10⟩

theorem sideSound_setLimits {x : Side} {d : SideState} (l : ExposureLimits) (h : SideSound x d) :
    SideSound x { d with exposure := { d.exposure with limits := correctLimits l } } := by
  obtain ⟨hg, h1, h2, h3, h4, h5, h6, h7, h8, h9, -, h11⟩ := h
  exact ⟨hg, h1, h2, h3, h4, h5, h6, h7, h8, h9, correctLimits_inRange l, h11⟩

theorem sideSound_setBase {x : Side} {d : SideState} (wide : Bool) {w : Window} (hw : soundIn d.geometry.bounds w)
    (h : SideSound x d) : SideSound x { d with geometry := setBase x wide w d.geometry } := by
  refine ⟨geometrySound_setBase h.1 wide hw, ?_⟩
  obtain ⟨h1, h2, h3⟩ := h.2
  cases wide with
  | true => exact ⟨h1, hw.1, h3⟩
  | false => exact ⟨hw.1, h2, h3⟩

theorem soundLaw_sampled {s : State} (h : SoundLaw s) (supply : Nat) (temperature : Int) :
    SoundLaw { s with health := sampled supply temperature s.health, freeCount := s.freeCount + 1 } :=
  h.congr rfl rfl rfl (sampled_thresholds supply temperature s.health)

theorem soundLaw_clearCounters {s : State} {x : Side} (h : SoundLaw s) : SoundLaw (clearCounters s x) :=
  h.onSide id

theorem soundLaw_setGlare {s : State} {x : Side} (g : GlareSettings) (h : SoundLaw s) :
    SoundLaw (setGlareSettings (clampGlare g) s x) :=
  h.onSide (sideSound_setGlare g)

theorem soundLaw_setTone {s : State} {x : Side} (key : Nat) (p : List Byte) (h : SoundLaw s) :
    SoundLaw (setTone (correctKey key) (correctTable (toneEntries p)) s x) :=
  h.onSide (sideSound_setTone key p)

theorem soundLaw_setLimits {s : State} {x : Side} (l : ExposureLimits) (h : SoundLaw s) :
    SoundLaw (setLimits (correctLimits l) s x) :=
  h.onSide (sideSound_setLimits l)

theorem soundLaw_own (k : RequestKind) (tag : Byte) (p : List Byte) {s : State} (h : SoundLaw s) :
    SoundLaw (ownerOf k tag p s).state := by
  cases k with
  | status => exact h
  | identify => exact h
  | wake =>
    change SoundLaw (wakeRequested s)
    unfold wakeRequested
    repeat' split
    all_goals exact h.congr rfl rfl rfl rfl
  | reset =>
    obtain e | e := ownReset_cases tag s
    · exact e.symm ▸ h.congr rfl rfl rfl rfl
    · exact e.symm ▸ soundLaw_volatileReset s
  | readGlare => exact (ownReadGlare_state p s).symm ▸ h
  | storeRead => exact (ownStoreRead_state p s).symm ▸ h
  | readHealth => exact h.congr rfl rfl rfl rfl
  | fetchReports => exact h.congr rfl rfl rfl rfl
  | startView =>
    obtain e | ⟨sides, -, -, e⟩ := ownStartView_cases p s
    · exact e.symm ▸ h
    · exact e.symm ▸ soundLaw_foldl (fun _ _ => soundLaw_startSide) sides h
  | stopView =>
    obtain e | ⟨sides, e⟩ := ownStopView_cases p s
    · exact e.symm ▸ h
    · exact e.symm ▸ (soundLaw_foldl (fun _ _ => soundLaw_stopIfRunning) sides h).settle
  | setTiming =>
    obtain e | ⟨t, -, -, e⟩ := ownSetTiming_cases p s
    · exact e.symm ▸ h
    · exact e.symm ▸ ⟨h.sides.congr rfl rfl, clampTiming_device t h.device.1⟩
  | vehicleState => exact soundLaw_vehicleState p h
  | adjustView =>
    obtain e | ⟨x, wide, _, _, _, -, e⟩ := ownAdjustView_cases p s
    · exact e.symm ▸ h
    · exact e.symm ▸ h.onSide (sideSound_setBase wide (clampAt_sound (soundParts (h.sides x).1).bounds _ _ _ _))
  | inspect =>
    obtain e | ⟨x, _, _, -, e⟩ := ownInspect_cases p s
    · exact e.symm ▸ h
    · exact e.symm ▸ h.onSide (sideSound_setOverrides _ _)
  | endInspect =>
    obtain e | ⟨sides, e⟩ := ownEndInspect_cases p s
    · exact e.symm ▸ h
    · exact e.symm ▸ soundLaw_foldl (fun _ _ => soundLaw_endInspectSide) sides h
  | setGlare =>
    obtain e | ⟨g, sides, e⟩ := ownSetGlare_cases p s
    · exact e.symm ▸ h
    · exact e.symm ▸ soundLaw_foldl (fun _ _ => soundLaw_setGlare g) sides h
  | setTone =>
    obtain e | ⟨key, sides, e⟩ := ownSetTone_cases p s
    · exact e.symm ▸ h
    · exact e.symm ▸ soundLaw_foldl (fun _ _ => soundLaw_setTone key p) sides h
  | setExposureLimits =>
    obtain e | ⟨l, sides, e⟩ := ownSetExposureLimits_cases p s
    · exact e.symm ▸ h
    · exact e.symm ▸ soundLaw_foldl (fun _ _ => soundLaw_setLimits l) sides h
  | readCounters =>
    obtain e | ⟨sides, e⟩ := ownReadCounters_cases p s
    · exact e.symm ▸ h
    · exact e.symm ▸ soundLaw_foldl (fun _ _ => soundLaw_clearCounters) sides h
  | restoreView => exact soundLaw_restoreView p h
  | storeUnlock =>
    obtain e | e := ownStoreUnlock_cases s
    · exact e.symm ▸ h
    · exact e.symm ▸ h.congr rfl rfl rfl rfl
  | storeProtect =>
    obtain e | ⟨b, e⟩ := ownStoreProtect_cases p s
    · exact e.symm ▸ h
    · exact e.symm ▸ h.congr rfl rfl rfl rfl
  | storeWrite =>
    obtain e | ⟨shut, w, e⟩ := ownStoreWrite_cases p s
    · exact e.symm ▸ h
    · exact e.symm ▸ soundLaw_modify h shut w
  | storeErase =>
    obtain e | ⟨shut, w, e⟩ := ownStoreErase_cases p s
    · exact e.symm ▸ h
    · exact e.symm ▸ soundLaw_modify h shut w
  | storeLockFactory => exact soundLaw_modify h _ _
  | saveProfile =>
    obtain e | ⟨shut, w, e⟩ := ownSaveProfile_cases p s
    · exact e.symm ▸ h
    · exact e.symm ▸ soundLaw_modify h shut w
  | loadProfile =>
    obtain e | ⟨bytes, e⟩ := ownLoadProfile_cases p s
    · exact e.symm ▸ h
    · exact e.symm ▸ soundLaw_applyProfile h (fitsPart_correct h bytes)
  | standby => exact ((soundLaw_standbySide (soundLaw_standbySide h)).setPart _).settle

/-- Every command keeps windows and settings sound. -/
theorem soundLaw_kept : Kept SoundLaw where
  frame _ _ _ _ _ _ _ h := h.congr rfl rfl rfl rfl
  tick _ _ h := h.congr rfl rfl rfl rfl
  powerOn s := (soundLaw_volatileReset s).congr rfl rfl rfl rfl
  powerLoss _ h := h.congr rfl rfl rfl rfl
  initCompletion w _ _ _ h := soundLaw_initCompleted w h
  vsync _ _ _ _ h := soundLaw_vsyncExpired h
  camTrigger x s _ _ h := (h.sidesOnly (SidesOnly.refl s).camExpired (h.sides.camExpired (free_sideSound x))).settle
  frameStart x _ _ _ s _ h := h.sidesOnly (SidesOnly.refl s).frameStart (h.sides.frameStart (free_sideSound x))
  line x _ s _ h := h.sidesOnly (SidesOnly.refl s).lineArrived (h.sides.lineArrived (free_sideSound x))
  frameEnd x s _ h := h.sidesOnly (SidesOnly.refl s).frameEnd (h.sides.frameEnd (free_sideSound x))
  linkLost x s _ _ h := h.sidesOnly (SidesOnly.refl s).linkLostExpired (h.sides.linkLostExpired (free_sideSound x))
  exposureTaken x s _ h := h.sidesOnly (SidesOnly.refl s).takeExposure (h.sides.takeExposure (free_sideSound x))
  glareTaken x s _ h := h.sidesOnly (SidesOnly.refl s).takeGlare (h.sides.takeGlare (free_sideSound x))
  dispatch _ s _ h := h.sidesOnly (SidesOnly.refl s).dispatch (h.sides.dispatch fun _ => id)
  acknowledged x s _ h := soundLaw_endQuiescing (SoundLaw.settle (h.sidesOnly (SidesOnly.refl s).acknowledged
    (((h.sides.core (free_sideSound x)).gone (free_sideSound x).toBlind).dispatch fun _ => id)))
  failed x s _ h := by
    have F := free_sideSound x
    refine soundLaw_endQuiescing (SoundLaw.settle (h.sidesOnly (SidesOnly.refl s).failed ?_))
    unfold failed
    repeat' split
    · exact h.sides.core F
    · exact ((h.sides.core F).raise F.toBlind).dispatch fun _ => id
    · exact ((h.sides.core F).count F.toBlind).emit
  echo x _ _ _ s _ h := h.sidesOnly (SidesOnly.refl s).echoArrived (h.sides.echoArrived (free_sideSound x))
  echoByte x b s _ h := by
    refine h.sidesOnly (SidesOnly.refl s).echoByte ?_
    unfold echoByte
    dsimp only
    repeat' split
    · exact h.sides
    · exact h.sides.core (free_sideSound x)
    · exact h.sides.echoArrived (free_sideSound x)
  echoTimer x s _ _ h := SoundLaw.settle (h.sidesOnly (SidesOnly.refl s).onSide.raise
    ((h.sides.core (free_sideSound x)).raise (free_sideSound x).toBlind))
  echoIdle x s _ h := h.sidesOnly (SidesOnly.refl s).onSide (h.sides.core (free_sideSound x))
  startTimer x s _ _ h := SoundLaw.settle (h.sidesOnly (SidesOnly.refl s).onSide.raise
    ((h.sides.core (free_sideSound x)).raise (free_sideSound x).toBlind))
  freshness sig _ _ h := soundLaw_freshness sig h
  inspect x s _ _ h := h.onSide (sideSound_setOverrides _ _)
  wakeTimer _ _ _ h := soundLaw_wakeExpired h
  wakeLine _ _ h := soundLaw_wakeLineRises h
  sample supply temperature s _ _ h :=
    (soundLaw_sampled h supply temperature).sidesOnly (sampleArrived_frame supply temperature s)
      (h.sides.sampleArrived (free_sideSound .left).toBlind)
  savePhase _ _ _ _ h := h.congr rfl rfl rfl rfl
  storeDone _ _ _ _ h := soundLaw_endQuiescing (soundLaw_deferredReset (h.congr rfl rfl rfl rfl))
  deferredReset _ _ h := soundLaw_deferredReset h
  endQuiescing _ _ h := soundLaw_endQuiescing h
  own k tag p _ _ _ h := soundLaw_own k tag p h

/-- Settles O9: sound windows and settings in range are kept by every command. -/
theorem stepsKeepTheWindowAndSettingsLaws : Obligations.StepsKeepTheWindowAndSettingsLaws :=
  fun s t hw hs e => (soundLaw_iff t).1 (soundLaw_kept.step ((soundLaw_iff s).2 ⟨hw, hs⟩) e)

end Sys2Proof.Machine

/-! # What an event does at all (O2, O3, O28)

An event happens only with power; without it the record of the event is emptied and nothing else. -/

namespace Sys2Proof.Machine

theorem event_powered {s : State} (h : s.powered = true) (f : State → State) :
    event s f = .next (f s.beginEvent) := by
  simp [event, h]

theorem event_unpowered {s : State} (h : s.powered = false) (f : State → State) :
    event s f = .next s.beginEvent := by
  simp [event, h]

/-- Every command but POWER_ON is an event. -/
theorem exec_isEvent {c : Instr} (hc : c ≠ .powerOn) (s : State) : ∃ f, exec c s = event s f := by
  cases c with
  | powerOn => exact absurd rfl hc
  | saveProfilePhaseExpiry => exact ⟨_, by unfold exec execSaveProfilePhaseExpiry; rfl⟩
  | storeOperationCompletion => exact ⟨_, by unfold exec execStoreOperationCompletion; rfl⟩
  | chipSelectFalling => exact ⟨_, by unfold exec execChipSelectFalling; rfl⟩
  | _ => exact ⟨_, rfl⟩

/-- Settles O2. -/
theorem withoutCommandOrPowerThePartDoesOnlyThis : Obligations.WithoutCommandOrPowerThePartDoesOnlyThis := by
  refine ⟨fun s hs => ⟨fun c cs hd => ?_, fun hd => ?_⟩, fun c s hp hc => ?_⟩
  · simp only [step, hs, hd]
  · simp only [step, hs, hd, tick, State.beginEvent]
  · obtain ⟨f, hf⟩ := exec_isEvent hc s
    rw [hf, event_unpowered hp]
    rfl

/-! ## Arrivals that are discarded (O28) -/

theorem frameStart_off {x : Side} {s : State} (h : (s.side x).sup.view = .off) (number exposure length : Word16) :
    frameStart x number exposure length s = s := if_pos h

theorem lineArrived_discarded {x : Side} {s : State}
    (h : (s.side x).sup.view = .off ∨ (s.side x).port.frame = none) (bytes : List Byte) :
    lineArrived x bytes s = s := by
  unfold lineArrived
  split
  · rfl
  · next hv => simp only [h.resolve_left hv]

theorem frameEnd_discarded {x : Side} {s : State}
    (h : (s.side x).sup.view = .off ∨ (s.side x).port.frame = none) : frameEnd x s = s := by
  unfold frameEnd
  split
  · rfl
  · next hv => simp only [h.resolve_left hv]

theorem current_iff {x : Side} {attempt : Byte} {s : State} :
    current x attempt s = true ↔ ∃ f, (s.side x).channel.inFlight = some f ∧ f.attempt = attempt := by
  unfold current
  split <;> simp_all

theorem not_current {x : Side} {attempt : Byte} {s : State}
    (h : ∀ f, (s.side x).channel.inFlight = some f → f.attempt ≠ attempt) : ¬ current x attempt s = true := fun e =>
  have ⟨f, hf, ha⟩ := current_iff.1 e
  h f hf ha

theorem execAckArrival_discarded {x : Side} {answer attempt : Byte} {s : State} (hp : s.powered = true)
    (h : ¬ (answer = 0 ∧ current x attempt s.beginEvent = true)) :
    exec (.ackArrival x answer attempt) s = .next s.beginEvent := by
  change event s _ = _
  rw [event_powered hp, if_neg h]

theorem execNackArrival_discarded {x : Side} {answer attempt : Byte} {s : State} (hp : s.powered = true)
    (h : ¬ (answer = 1 ∧ current x attempt s.beginEvent = true)) :
    exec (.nackArrival x answer attempt) s = .next s.beginEvent := by
  change event s _ = _
  rw [event_powered hp, if_neg h]

/-- Settles O28. -/
theorem discardedArrivalsChangeNothing : Obligations.DiscardedArrivalsChangeNothing := by
  intro x s hp
  have hside : s.beginEvent.side x = s.side x := State.beginEvent_side s x
  refine ⟨fun hv a b c => ?_, fun hd => ⟨fun bytes => ?_, ?_⟩, fun answer attempt => ⟨fun hc => ⟨?_, ?_⟩, ?_, ?_⟩⟩
  · exact (event_powered hp _).trans (congrArg _ (frameStart_off (hside.symm ▸ hv) a b c))
  · exact (event_powered hp _).trans (congrArg _ (lineArrived_discarded (hside.symm ▸ hd) bytes))
  · exact (event_powered hp _).trans (congrArg _ (frameEnd_discarded (hside.symm ▸ hd)))
  · exact execAckArrival_discarded hp fun h => not_current (hside.symm ▸ hc) h.2
  · exact execNackArrival_discarded hp fun h => not_current (hside.symm ▸ hc) h.2
  · exact fun ha => execAckArrival_discarded hp fun h => ha h.1
  · exact fun ha => execNackArrival_discarded hp fun h => ha h.1

/-! ## The reset state (O3) -/

/-- The square-root law of R81, entry by entry. -/
theorem defaultToneTable_law : ∀ i < 65,
    64 * defaultToneTable.getD i 0 ^ 2 ≤ 1023 ^ 2 * i ∧ 1023 ^ 2 * i < 64 * (defaultToneTable.getD i 0 + 1) ^ 2 := by
  decide

theorem defaultToneTable_entry {i v : Nat} (h : defaultToneTable[i]? = some v) :
    64 * v ^ 2 ≤ 1023 ^ 2 * i ∧ 1023 ^ 2 * i < 64 * (v + 1) ^ 2 := by
  have hi : i < 65 := (List.getElem?_eq_some_iff.1 h).1
  have law := defaultToneTable_law i hi
  rwa [List.getD_eq_getElem?_getD, h] at law

/-- Settles O3. -/
theorem resetStateHoldsTheValuesTheSpecGives : Obligations.ResetStateHoldsTheValuesTheSpecGives := by
  refine ⟨by decide, by decide, by decide, by decide, by decide, by decide, fun x => ?_⟩
  cases x
  all_goals
    refine ⟨by decide, by decide, by decide, by decide, by decide, by decide, by decide,
      ⟨List.length_replicate, fun g => List.eq_of_mem_replicate, by decide⟩,
      ⟨by decide, by decide, by decide, fun i v => defaultToneTable_entry⟩, by decide, by decide, by decide,
      ⟨by decide, by decide, by decide, fun k => ?_⟩, by decide⟩
    cases k <;> rfl

end Sys2Proof.Machine

/-! # Events of one side

What an event of one side did before it settles is `s.within x d out handed`: the state it began in with the side, the
outputs and the transitions replaced. Each operation of such an event keeps that form, and `Told` says what the
transitions handed on so far tell of the set. `settle_within` then gives the frame clauses of every such event. -/

namespace Sys2Proof.Machine

/-- A state with one side, the outputs and the transitions handed on replaced. -/
def State.within (s : State) (x : Side) (d : SideState) (out : List Output) (handed : List Transition) : State :=
  { s.setSide x d with out := out, handed := handed }

section
variable (s : State) (x : Side) (d : SideState) (out : List Output) (handed : List Transition)

theorem beginEvent_within : s.beginEvent = s.within x (s.side x) [] [] := by cases x <;> rfl

@[simp] theorem within_side : (s.within x d out handed).side x = d := by cases x <;> rfl
@[simp] theorem within_faults : (s.within x d out handed).faults x = d.sup.faults := by cases x <;> rfl
@[simp] theorem within_now : (s.within x d out handed).now = s.now := by cases x <;> rfl
@[simp] theorem within_timing : (s.within x d out handed).timing = s.timing := by cases x <;> rfl
@[simp] theorem within_reports : (s.within x d out handed).reports = s.reports := by cases x <;> rfl

@[simp] theorem within_syncMode : (s.within x d out handed).syncMode = s.syncMode := by
  funext y; cases x <;> cases y <;> rfl

theorem within_side_of_ne {y : Side} (h : y ≠ x) : (s.within x d out handed).side y = s.side y := by
  cases y <;> exact State.side_setSide_of_ne s d h

@[simp] theorem within_onSide (f : SideState → SideState) :
    (s.within x d out handed).onSide x f = s.within x (f d) out handed := by cases x <;> rfl

@[simp] theorem within_count (f : Counters → Counters) :
    (s.within x d out handed).count x f = s.within x { d with counters := f d.counters } out handed := by
  cases x <;> rfl

@[simp] theorem within_emit (o : Output) :
    (s.within x d out handed).emit o = s.within x d (out ++ [o]) handed := by cases x <;> rfl

theorem within_raise (k : FaultKind) :
    raise x k (s.within x d out handed) = s.within x (d.withFaults (raisedIn d.sup.faults k)) out
      (handed ++ if d.sup.faults.get k = .active then [] else [⟨k, .raised, sideScope x, .plain⟩]) := by
  rw [raise_eq]; cases x <;> rfl

theorem within_gone (k : FaultKind) :
    gone x k (s.within x d out handed) = s.within x (d.withFaults (goneIn d.sup.faults k)) out
      (handed ++ if d.sup.faults.get k = .active then [⟨k, .cleared, sideScope x, goneFlag k⟩] else []) := by
  rw [gone_eq]; cases x <;> rfl

theorem within_submit (t : Transaction) : ∃ sent, submit x t (s.within x d out handed) =
    s.within x { d with channel := admittedChannel t d.channel s.now } (out ++ sent) handed := by
  rw [admit_eq]; cases x <;> exact ⟨_, rfl⟩

end

@[simp] theorem withFaults_faults (d : SideState) (f : FaultSet) : (d.withFaults f).sup.faults = f := rfl

/-! ## What the transitions tell of the set -/

/-- The transitions of an event of one side tell every change of its set from `f` to `g` once, and those of `brief`
besides; they are about the kinds given, each of scope side. -/
structure Told (x : Side) (brief : List Transition) (f g : FaultSet) (handed : List Transition)
    (kinds : List FaultKind) : Prop where
  nodup : handed.Nodup
  scope : ∀ t ∈ handed, t.scope = sideScope x
  about : ∀ t ∈ handed, t.kind ∈ kinds
  sided : ∀ k ∈ kinds, kindScope k = .side
  same : ∀ k ∉ kinds, g.get k = f.get k
  mem : ∀ t : Transition, t ∈ handed ↔ t ∈ brief ∨
    (t.scope = sideScope x ∧ memberChange .plain (f.get t.kind) (g.get t.kind) = some (t.direction, t.flag))

theorem memberChange_self (removed : FlagClass) (m : Member) : memberChange removed m m = none := if_pos rfl

theorem Told.nil (x : Side) (f : FaultSet) : Told x [] f f [] [] where
  nodup := .nil
  scope := by simp
  about := by simp
  sided := by simp
  same _ _ := rfl
  mem := by simp [memberChange_self]

section
variable {x : Side} {brief handed : List Transition} {f g : FaultSet} {kinds : List FaultKind} {k : FaultKind}

/-- A kind that the transitions leave as it was may be counted among those they are about. -/
theorem Told.weaken (T : Told x brief f g handed kinds) (hs : kindScope k = .side) :
    Told x brief f g handed (k :: kinds) where
  nodup := T.nodup
  scope := T.scope
  about t ht := .tail _ (T.about t ht)
  sided := by simpa [hs] using T.sided
  same j hj := T.same j fun h => hj (.tail _ h)
  mem := T.mem

/-- A kind not told of yet changes, and its transition is handed on. -/
theorem Told.set (T : Told x brief f g handed kinds) (hk : k ∉ kinds) (hs : kindScope k = .side) {m : Member}
    {dir : Direction} {flag : FlagClass} (hm : memberChange .plain (g.get k) m = some (dir, flag)) :
    Told x brief f (g.set k m) (handed ++ [⟨k, dir, sideScope x, flag⟩]) (k :: kinds) where
  nodup := List.nodup_append.2 ⟨T.nodup, List.nodup_singleton _, fun t ht u hu =>
    fun e => hk (by rw [List.mem_singleton] at hu; subst hu; subst e; exact T.about _ ht)⟩
  scope t ht := by
    rw [List.mem_append, List.mem_singleton] at ht
    obtain ht | rfl := ht
    · exact T.scope t ht
    · rfl
  about t ht := by
    rw [List.mem_append, List.mem_singleton] at ht
    obtain ht | rfl := ht
    · exact .tail _ (T.about t ht)
    · exact .head _
  sided := by simpa [hs] using T.sided
  same j hj := by
    have hne : j ≠ k := fun e => hj (e ▸ .head _)
    rw [FaultSet.get_set_of_ne _ _ hne]
    exact T.same j fun h => hj (.tail _ h)
  mem t := by
    rw [List.mem_append, List.mem_singleton]
    by_cases ht : t.kind = k
    · have old : t ∉ handed := fun h => hk (ht ▸ T.about t h)
      have quiet : t ∉ brief := fun h => old ((T.mem t).2 (.inl h))
      obtain ⟨kind, d', scope, fl'⟩ := t
      obtain rfl : kind = k := ht
      rw [FaultSet.get_set_self, ← T.same _ hk, hm]
      simp only [old, quiet, false_or, Transition.mk.injEq, true_and, Option.some.injEq, Prod.mk.injEq]
      exact ⟨fun ⟨a, b, c⟩ => ⟨b, a.symm, c.symm⟩, fun ⟨b, a, c⟩ => ⟨a.symm, b, c.symm⟩⟩
    · rw [FaultSet.get_set_of_ne _ _ ht, ← T.mem t]
      exact or_iff_left fun e => ht (congrArg Transition.kind e)

theorem Told.raise (T : Told x brief f g handed kinds) (hk : k ∉ kinds) (hs : kindScope k = .side) :
    Told x brief f (raisedIn g k)
      (handed ++ if g.get k = .active then [] else [⟨k, .raised, sideScope x, .plain⟩]) (k :: kinds) := by
  by_cases h : g.get k = .active
  · simpa [h, raisedIn_active h] using T.weaken hs
  · simpa [h, raisedIn] using T.set hk hs (m := .active) (by simp [memberChange, h])

theorem Told.gone (T : Told x brief f g handed kinds) (hk : k ∉ kinds) (hs : kindScope k = .side) :
    Told x brief f (goneIn g k)
      (handed ++ if g.get k = .active then [⟨k, .cleared, sideScope x, goneFlag k⟩] else []) (k :: kinds) := by
  by_cases h : g.get k = .active
  · have change : memberChange .plain (g.get k) (if latched k then .held else .absent) =
        some (.cleared, goneFlag k) := by
      rw [h, goneFlag]
      cases latched k <;> rfl
    simpa [h, goneIn] using T.set hk hs change
  · simpa [h, goneIn] using T.weaken hs

/-- A transition told of has the record scope of its kind. -/
theorem Told.mem_recordScope (T : Told x brief f g handed kinds) (t : Transition) : t ∈ handed ↔ t ∈ brief ∨
    (t.scope = (if kindScope t.kind = .side then sideScope x else .device) ∧
      memberChange .plain (f.get t.kind) (g.get t.kind) = some (t.direction, t.flag)) := by
  rw [T.mem]
  refine or_congr_right (and_congr_left fun hm => ?_)
  by_cases hk : t.kind ∈ kinds
  · rw [if_pos (T.sided _ hk)]
  · rw [T.same _ hk, memberChange_self] at hm
    exact absurd hm (by simp)

/-- What the transitions tell touches the side, where the set changed. -/
theorem Told.touched (T : Told x brief f g handed kinds) (h : touched x handed = false) : g = f := by
  have empty : handed = [] := by
    refine List.eq_nil_iff_forall_not_mem.2 fun t ht => ?_
    have := T.scope t ht
    simp only [Machine.touched, List.any_eq_false] at h
    exact h t ht (by simp [this])
  subst empty
  refine FaultSet.ext_get fun k => ?_
  by_contra hne
  have hc : memberChange .plain (f.get k) (g.get k) ≠ none := by
    unfold memberChange
    rw [if_neg fun e => hne e.symm]
    split <;> simp
  obtain ⟨⟨dir, flag⟩, hc⟩ := Option.ne_none_iff_exists'.1 hc
  exact List.not_mem_nil ((T.mem ⟨k, dir, sideScope x, flag⟩).2 (.inr ⟨rfl, hc⟩))

end

theorem raisedIn_then_goneIn {f : FaultSet} {k : FaultKind} (h : f.get k = .absent) (hl : latched k = false) :
    goneIn (raisedIn f k) k = f := by
  refine FaultSet.ext_get fun j => ?_
  rw [goneIn_get, raisedIn_get, raisedIn_get]
  by_cases hj : j = k <;> simp [hj, h, hl]

/-- A frame found malformed is told by its two transitions, and the set is as it was (R139). -/
theorem Told.malformed (x : Side) (f : FaultSet) :
    Told x (malformedBriefly x) f f (malformedBriefly x) [.frameMalformed] where
  nodup := by cases x <;> decide
  scope := by simp [malformedBriefly]
  about := by simp [malformedBriefly]
  sided := by simp [kindScope]
  same _ _ := rfl
  mem := by simp [memberChange_self]

theorem within_malformed (s : State) (x : Side) (d : SideState) (out : List Output)
    (h : d.sup.faults.get .frameMalformed = .absent) :
    malformed x (s.within x d out []) =
      s.within x { d with counters := { d.counters with malformed := satInc d.counters.malformed } } out
        (malformedBriefly x) := by
  unfold malformed
  rw [within_count, within_raise, within_gone]
  simp only [withFaults_faults, raisedIn_then_goneIn h rfl, raisedIn_get, h]
  rfl

/-! ## Settling -/

section
variable {s : State} {x : Side} {d : SideState} {out : List Output} {handed brief : List Transition}
  {kinds : List FaultKind}

theorem sideScope_ne_device (x : Side) : sideScope x ≠ .device := by cases x <;> decide

theorem sideScope_injective {x y : Side} (h : sideScope x = sideScope y) : x = y := by
  cases x <;> cases y <;> simp_all [sideScope]

theorem untouched_of_scope {x y : Side} {l : List Transition} (h : ∀ t ∈ l, t.scope = sideScope x) (hy : y ≠ x) :
    touched y l = false := by
  unfold touched
  rw [List.any_eq_false]
  intro t ht
  have hx : ¬ sideScope x = sideScope y := fun e => hy (sideScope_injective e).symm
  simp [h t ht, hx, sideScope_ne_device]

theorem settledSide_untouched {x : Side} {l : List Transition} (h : touched x l = false) (d : SideState) :
    settledSide x l d = d := by
  unfold settledSide settledView
  simp only [h, Bool.false_eq_true, if_false, ne_eq, and_not_self]

/-- The frame of a settled event of one side. -/
theorem oneSide_settle (h : ∀ t ∈ handed, t.scope = sideScope x) : OneSide x s (settle (s.within x d out handed)) := by
  have other {y : Side} (hy : y ≠ x) (e : SideState) : settledSide y handed e = e :=
    settledSide_untouched (untouched_of_scope h hy) e
  unfold OneSide
  rw [settle_side, settle_eq]
  cases x with
  | left => simp [State.within, State.setSide, State.side, other (y := .right) (by decide)]
  | right => simp [State.within, State.setSide, State.side, other (y := .left) (by decide)]

theorem handedOn_settle (T : Told x brief (s.faults x) d.sup.faults handed kinds) :
    HandedOn .plain brief s (settle (s.within x d out handed)) := by
  unfold HandedOn
  rw [settle_handed]
  refine ⟨T.nodup, fun t => (T.mem_recordScope t).trans
    (or_congr_right ⟨fun ⟨hs, hm⟩ => ⟨x, hs, ?_⟩, fun ⟨y, hs, hm⟩ => ?_⟩)⟩
  · rw [settle_faults, within_faults]
    exact hm
  · rw [settle_faults] at hm
    by_cases hy : y = x
    · subst hy
      rw [within_faults] at hm
      exact ⟨hs, hm⟩
    · rw [State.faults, State.faults, within_side_of_ne _ _ _ _ _ hy, memberChange_self] at hm
      exact absurd hm (by simp)

/-- The clauses common to the events of one side. -/
theorem settle_within (T : Told x brief (s.faults x) d.sup.faults handed kinds) (hl : ViewLaw s)
    (hv : d.sup.view = (s.side x).sup.view) (hg : d.gain = (s.side x).gain) :
    OneSide x s (settle (s.within x d out handed)) ∧ Reported s (settle (s.within x d out handed)) ∧
      HandedOn .plain brief s (settle (s.within x d out handed)) ∧
      ViewFollows x s (settle (s.within x d out handed)) ∧ MapFollows x s (settle (s.within x d out handed)) :=
  ⟨oneSide_settle T.scope, reported_settle (within_now ..) (within_reports ..), handedOn_settle T,
    viewFollows_settle hl (by rw [within_side]; exact hv) fun h => by
      rw [within_faults]; exact T.touched h,
    mapFollows_settle (by rw [within_side]; exact hv) (by rw [within_side]; exact hg)⟩

@[simp] theorem settle_within_out : (settle (s.within x d out handed)).out = out := by rw [settle_eq]; rfl

@[simp] theorem settle_within_faults : (settle (s.within x d out handed)).faults x = d.sup.faults := by
  rw [settle_faults, within_faults]

@[simp] theorem settle_within_side : (settle (s.within x d out handed)).side x = settledSide x handed d := by
  rw [settle_side, within_side]; rfl

end

end Sys2Proof.Machine

/-! # The camera port's events (O27, O29, O32, O33, O34) -/

namespace Sys2Proof.Machine

section
variable {s : State} {x : Side} {d : SideState} {out : List Output} {handed : List Transition}

/-- Only the set and the view state of the supervisor change in an event that touches no more of it. -/
theorem settle_within_sup (h : d.sup = { (s.side x).sup with faults := d.sup.faults }) :
    ((settle (s.within x d out handed)).side x).sup =
      { (s.side x).sup with
        view := ((settle (s.within x d out handed)).side x).sup.view,
        faults := (settle (s.within x d out handed)).faults x } := by
  rw [settle_within_faults, settle_within_side, settledSide, h]

/-! ## The camera trigger (O27) -/

theorem within_fire : fire x (s.within x d out handed) =
    s.within x (d.withFaults (goneIn d.sup.faults .triggerLate)) (out ++ [.pulse x])
      (handed ++ if d.sup.faults.get .triggerLate = .active
        then [⟨.triggerLate, .cleared, sideScope x, goneFlag .triggerLate⟩] else []) := by
  rw [fire, within_emit, within_gone]

/-- A side with one more trigger counted late. -/
def SideState.oneLate (d : SideState) : SideState :=
  { d with counters := { d.counters with triggersLate := satInc d.counters.triggersLate } }

theorem within_dropLate : dropLate x (s.within x d out handed) =
    s.within x (d.oneLate.withFaults (raisedIn d.sup.faults .triggerLate)) out
      (handed ++ if d.sup.faults.get .triggerLate = .active then []
        else [⟨.triggerLate, .raised, sideScope x, .plain⟩]) := by
  rw [dropLate, within_count, within_raise]
  rfl

end

/-- The side whose trigger's grid advanced. -/
def SideState.advanceCam (d : SideState) : SideState :=
  { d with cam := d.cam.advance }

theorem camExpired_follow {x : Side} {s : State} (h : s.syncMode x = .follow) :
    camExpired x s.beginEvent = s.within x (s.side x).advanceCam [] [] := by
  unfold camExpired
  rw [beginEvent_within s x]
  simp only [within_onSide, within_syncMode, h]
  rfl

theorem camExpired_idle {x : Side} {s : State} (h : s.syncMode x = .triggered) (hf : (s.side x).port.frame = none) :
    camExpired x s.beginEvent = fire x (s.within x (s.side x).advanceCam [] []) := by
  unfold camExpired
  rw [beginEvent_within s x]
  simp only [within_side, within_onSide, within_syncMode, h, hf]
  rfl

theorem camExpired_receiving {x : Side} {s : State} (h : s.syncMode x = .triggered)
    (hf : (s.side x).port.frame.isSome = true) :
    camExpired x s.beginEvent =
      holdTrigger x (s.side x).cam.next (s.within x (s.side x).advanceCam [] []) := by
  unfold camExpired
  rw [beginEvent_within s x]
  simp only [within_side, within_onSide, within_syncMode, h, hf]
  rfl

theorem within_holdTrigger_none {x : Side} {s : State} {d : SideState} {out : List Output}
    {handed : List Transition} {expiry : PartTime} (h : d.held = none) :
    holdTrigger x expiry (s.within x d out handed) = s.within x { d with held := some expiry } out handed := by
  unfold holdTrigger
  rw [within_side, h]
  exact within_onSide ..

theorem within_holdTrigger_some {x : Side} {s : State} {d : SideState} {out : List Output}
    {handed : List Transition} {expiry : PartTime} (h : d.held.isSome = true) :
    holdTrigger x expiry (s.within x d out handed) =
      (dropLate x (s.within x d out handed)).onSide x fun d => { d with held := some expiry } := by
  unfold holdTrigger
  rw [within_side, if_pos h]

theorem exec_camTriggerExpiry {x : Side} {s : State} (hp : s.powered = true) (hd : (s.side x).cam.due s.now = true) :
    exec (.camTriggerExpiry x) s = .next (settle (camExpired x s.beginEvent)) := by
  refine (event_powered hp _).trans ?_
  rw [if_pos (by rw [State.beginEvent_side]; exact hd)]

/-- Settles O27, by sync mode, port state and hold. -/
theorem cameraTriggerExpiryActsByModeAndPort : Obligations.CameraTriggerExpiryActsByModeAndPort := by
  intro x s hp hd hl
  refine ⟨_, exec_camTriggerExpiry hp hd, ?_⟩
  have T := Told.nil x (s.faults x)
  cases hm : s.syncMode x with
  | follow =>
    rw [camExpired_follow hm]
    obtain ⟨hone, hrep, hon, hview, hmap⟩ := settle_within (d := (s.side x).advanceCam) (out := []) T hl rfl rfl
    refine ⟨hone, hrep, hon, hview, hmap, ?_, settle_within_sup rfl, fun _ => ?_, nofun, nofun⟩
    all_goals simp only [settle_within_side, settle_within_faults, settle_within_out]
    · rfl
    · exact ⟨trivial, rfl, rfl, rfl⟩
  | triggered =>
    cases hf : (s.side x).port.frame with
    | none =>
      rw [camExpired_idle hm hf, within_fire]
      obtain ⟨hone, hrep, hon, hview, hmap⟩ :=
        settle_within (d := (s.side x).advanceCam.withFaults _) (out := [.pulse x])
          (T.gone (k := .triggerLate) (by simp) rfl) hl rfl rfl
      refine ⟨hone, hrep, hon, hview, hmap, ?_, settle_within_sup rfl, nofun, fun _ _ => ?_, nofun⟩
      all_goals simp only [settle_within_side, settle_within_faults, settle_within_out]
      · rfl
      · exact ⟨rfl, rfl, rfl, rfl⟩
    | some f =>
      rw [camExpired_receiving hm (hf ▸ rfl)]
      cases hh : (s.side x).held with
      | none =>
        rw [within_holdTrigger_none (d := (s.side x).advanceCam) hh]
        obtain ⟨hone, hrep, hon, hview, hmap⟩ :=
          settle_within (d := { (s.side x).advanceCam with held := some (s.side x).cam.next }) (out := []) T hl rfl rfl
        refine ⟨hone, hrep, hon, hview, hmap, ?_, settle_within_sup rfl, nofun, nofun, fun _ _ => ?_⟩
        all_goals simp only [settle_within_side, settle_within_faults, settle_within_out]
        · rfl
        · exact ⟨trivial, rfl, fun _ => ⟨rfl, rfl⟩, nofun⟩
      | some start =>
        have held : (s.side x).advanceCam.held.isSome = true := (congrArg Option.isSome hh).trans rfl
        rw [within_holdTrigger_some held, within_dropLate, within_onSide]
        obtain ⟨hone, hrep, hon, hview, hmap⟩ :=
          settle_within (d := { (s.side x).advanceCam.oneLate.withFaults _ with held := some (s.side x).cam.next })
            (out := []) (T.raise (k := .triggerLate) (by simp) rfl) hl rfl rfl
        refine ⟨hone, hrep, hon, hview, hmap, ?_, settle_within_sup rfl, nofun, nofun, fun _ _ => ?_⟩
        all_goals simp only [settle_within_side, settle_within_faults, settle_within_out]
        · rfl
        · exact ⟨trivial, rfl, nofun, fun _ => ⟨rfl, rfl⟩⟩

/-! ## The start of a frame (O29) -/

/-- A side whose frame in progress, if any, was counted as malformed. -/
def SideState.frameCutOff (d : SideState) : SideState :=
  { d with
    counters := { d.counters with
      malformed := if d.port.frame.isSome then satInc d.counters.malformed else d.counters.malformed } }

/-- What a frame cut off by the next one hands on. -/
def cutOffBrief (x : Side) (d : SideState) : List Transition :=
  if d.port.frame.isSome then malformedBriefly x else []

/-- The kinds that a frame cut off by the next one is told under. -/
def cutOffKinds (d : SideState) : List FaultKind :=
  if d.port.frame.isSome then [.frameMalformed] else []

theorem told_cutOff (x : Side) (f : FaultSet) (d : SideState) :
    Told x (cutOffBrief x d) f f (cutOffBrief x d) (cutOffKinds d) := by
  unfold cutOffBrief cutOffKinds
  split
  · exact Told.malformed x f
  · exact Told.nil x f

theorem cutOff_within {x : Side} {s : State} (h : (s.faults x).get .frameMalformed = .absent) :
    (if (s.side x).port.frame.isSome then malformed x s.beginEvent else s.beginEvent) =
      s.within x (s.side x).frameCutOff [] (cutOffBrief x (s.side x)) := by
  rw [beginEvent_within s x, within_malformed s x _ _ h]
  unfold SideState.frameCutOff cutOffBrief
  split <;> rfl

/-- A correction changes the follower, the channel and what is sent out (R32). -/
theorem within_phaseCorrect (s : State) (x : Side) (d : SideState) (out : List Output) (handed : List Transition)
    (e : Int) : ∃ channel follower sent, phaseCorrect x e (s.within x d out handed) =
      s.within x { d with channel := channel, follower := follower } sent handed := by
  unfold phaseCorrect
  split
  · exact ⟨_, _, _, within_onSide ..⟩
  · split
    · exact ⟨_, _, _, rfl⟩
    · split
      · exact ⟨_, _, _, rfl⟩
      · rw [within_onSide]
        obtain ⟨sent, h⟩ := within_submit s x
          { d with follower := { d.follower with outstanding := true } } out handed
          (.adjustLength (-(lineCorrection e (s.within x d out handed).timing.framePeriod)))
        exact ⟨_, _, _, h⟩

/-- Counting a measured frame changes the follower and PHASE_UNLOCKED (R33). -/
theorem within_phaseCount {s : State} {x : Side} {d : SideState} {out : List Output} {handed brief : List Transition}
    {f : FaultSet} {kinds : List FaultKind} (T : Told x brief f d.sup.faults handed kinds)
    (hk : .phaseUnlocked ∉ kinds) (e : Int) :
    ∃ follower faults handed', phaseCount x e (s.within x d out handed) =
        s.within x ({ d with follower := follower }.withFaults faults) out handed' ∧
      Told x brief f faults handed' (.phaseUnlocked :: kinds) ∧
      ∀ k, k ≠ .phaseUnlocked → faults.get k = d.sup.faults.get k := by
  unfold phaseCount
  dsimp only
  rw [within_onSide]
  split
  · split
    · rw [within_gone]
      exact ⟨_, _, _, rfl, T.gone hk rfl, fun k h => by rw [goneIn_get, if_neg fun e => h e.1]⟩
    · exact ⟨phaseRuns _ d.follower, d.sup.faults, _, rfl, T.weaken rfl, fun _ _ => rfl⟩
  · split
    · rw [within_raise]
      exact ⟨_, _, _, rfl, T.raise hk rfl, fun k h => by rw [raisedIn_get, if_neg h]⟩
    · exact ⟨phaseRuns _ d.follower, d.sup.faults, _, rfl, T.weaken rfl, fun _ _ => rfl⟩

/-- A side after its phase was measured. -/
def SideState.measured (channel : Channel) (follower : Follower) (faults : FaultSet) (d : SideState) : SideState :=
  { d with channel := channel, follower := follower, sup := { d.sup with faults := faults } }

/-- Measuring the phase changes the follower, the channel, PHASE_UNLOCKED and what is sent out, and nothing in
TRIGGERED mode. -/
theorem within_measurePhase {s : State} {x : Side} {d : SideState} {out : List Output}
    {handed brief : List Transition} {f : FaultSet} {kinds : List FaultKind}
    (T : Told x brief f d.sup.faults handed kinds) (hk : .phaseUnlocked ∉ kinds) :
    ∃ channel follower faults out' handed',
      measurePhase x (s.within x d out handed) =
          s.within x (d.measured channel follower faults) out' handed' ∧
        Told x brief f faults handed' (.phaseUnlocked :: kinds) ∧
        (∀ k, k ≠ .phaseUnlocked → faults.get k = d.sup.faults.get k) ∧
        (s.syncMode x = .triggered →
          out' = out ∧ channel = d.channel ∧ follower = d.follower ∧ faults = d.sup.faults) := by
  unfold measurePhase
  rw [within_syncMode]
  cases hm : s.syncMode x with
  | triggered =>
    exact ⟨d.channel, d.follower, d.sup.faults, _, _, rfl, T.weaken rfl, fun _ _ => rfl, fun _ => ⟨rfl, rfl, rfl, rfl⟩⟩
  | follow =>
    dsimp only
    obtain ⟨channel, follower, sent, hc⟩ := within_phaseCorrect s x d out handed
      (phaseError (s.within x d out handed).now ((s.within x d out handed).side x).cam.next
        (s.within x d out handed).timing.framePeriod)
    rw [hc]
    obtain ⟨follower', faults, handed', hr, T', hother⟩ :=
      within_phaseCount (s := s) (d := { d with channel := channel, follower := follower }) (out := sent) T hk
        (phaseError (s.within x d out handed).now ((s.within x d out handed).side x).cam.next
          (s.within x d out handed).timing.framePeriod)
    exact ⟨channel, follower', faults, _, _, hr, T', hother, nofun⟩

/-- A side after a frame start, LINK_LOST told gone (R11, R12). -/
def SideState.frameBegun (now : PartTime) (period : Nat) (number exposure length : Word16) (d : SideState) :
    SideState :=
  (beginFrame now period number exposure length d.frameCutOff).withFaults (goneIn d.sup.faults .linkLost)

theorem exec_frameStartArrival {x : Side} {number exposure length : Word16} {s : State} (hp : s.powered = true)
    (hv : (s.side x).sup.view ≠ .off) (ha : (s.faults x).get .frameMalformed = .absent) :
    exec (.frameStartArrival x number exposure length) s = .next (settle (measurePhase x
      (s.within x ((s.side x).frameBegun s.now s.timing.framePeriod number exposure length) []
        (cutOffBrief x (s.side x) ++ if (s.faults x).get .linkLost = .active
          then [⟨.linkLost, .cleared, sideScope x, goneFlag .linkLost⟩] else [])))) := by
  refine (event_powered hp _).trans (congrArg _ ?_)
  unfold frameStart
  simp only [State.beginEvent_side]
  rw [if_neg hv, cutOff_within ha]
  simp only [within_onSide, within_now, within_timing, within_gone]
  rfl

theorem keptExposure_eq (e : Word16) : keptExposure e = max 1 (min 4096 e.toNat) :=
  clampNat_eq (by decide)

/-- An AUTO kind told gone stands nowhere. -/
theorem goneIn_auto_absent {s : State} (hf : FaultLaw s) (x : Side) {k : FaultKind} (hk : latched k = false) :
    (goneIn (s.faults x) k).get k = .absent := by
  rw [goneIn_get]
  cases h : (s.faults x).get k with
  | absent => simp
  | active => simp [hk]
  | held => exact absurd ((hf.2 x).1 k h).1 (by simp [hk])

/-- Settles O29. -/
theorem frameStartBeginsAFrameInEveryBlock : Obligations.FrameStartBeginsAFrameInEveryBlock := by
  intro x number exposure length s hp hv hf hl
  refine ⟨_, exec_frameStartArrival hp hv (hf.2 x).2, ?_⟩
  have hk : FaultKind.linkLost ∉ cutOffKinds (s.side x) := by unfold cutOffKinds; split <;> simp
  have hk' : FaultKind.phaseUnlocked ∉ .linkLost :: cutOffKinds (s.side x) := by unfold cutOffKinds; split <;> simp
  have T := (told_cutOff x (s.faults x) (s.side x)).gone hk rfl
  obtain ⟨channel, follower, faults, out, handed, hm, T', hother, htrig⟩ := within_measurePhase (s := s) (out := [])
    (d := (s.side x).frameBegun s.now s.timing.framePeriod number exposure length) T hk'
  replace hother : ∀ k, k ≠ .phaseUnlocked → faults.get k = (goneIn (s.faults x) .linkLost).get k := hother
  rw [hm]
  obtain ⟨hone, hrep, hon, hview, hmap⟩ := settle_within (out := out)
    (d := SideState.measured channel follower faults
      ((s.side x).frameBegun s.now s.timing.framePeriod number exposure length)) T' hl rfl rfl
  refine ⟨hone, hrep, hon, hview, hmap, ?_, settle_within_sup rfl, ?_, ?_, ?_⟩
  all_goals simp only [settle_within_side, settle_within_faults, settle_within_out]
  · rw [← keptExposure_eq]
    simp only [settledSide, SideState.measured, SideState.frameBegun, beginFrame, latch, beginCollecting,
      SideState.frameCutOff, SideState.withFaults]
  · intro k h1 h2
    exact (hother k h2).trans (by rw [goneIn_get, if_neg fun h => h1 h.1])
  · exact (hother _ (by decide)).trans (goneIn_auto_absent hf x rfl)
  · intro ht
    obtain ⟨ho, hc, hfo, hfa⟩ := htrig ht
    refine ⟨ho, hc, hfo, ?_⟩
    replace hfa : faults = goneIn (s.faults x) .linkLost := hfa
    change faults.get _ = _
    rw [hfa, goneIn_get, if_neg fun h => by simp at h]

end Sys2Proof.Machine

/-! # The end of a frame (O32, O33, O34)

A frame that ends, passes, or is given up; a held trigger is then released (R7). -/

namespace Sys2Proof.Machine

/-- A side after a held trigger was released, with the late triggers counted and its set after it. -/
def SideState.released (late : Nat) (faults : FaultSet) (d : SideState) : SideState :=
  { d with
    held := none,
    counters := { d.counters with triggersLate := late },
    sup := { d.sup with faults := faults } }

theorem released_faults (late : Nat) (faults : FaultSet) (d : SideState) :
    (d.released late faults).sup.faults = faults := rfl

theorem released_counters (late : Nat) (faults : FaultSet) (d : SideState) (h : late = d.counters.triggersLate) :
    (d.released late faults).counters = d.counters := by
  rw [h]
  rfl

/-- What a release of a hold sends, counts and does to the set (R7). -/
structure Release (now : PartTime) (x : Side) (held : Option PartTime) (late : Nat) (faults : FaultSet)
    (out : List Output) (late' : Nat) (faults' : FaultSet) (out' : List Output) : Prop where
  none : held = none → out' = out ∧ faults' = faults ∧ late' = late
  fires : ∀ start, held = some start → duration now start ≤ 2000 →
    out' = out ++ [.pulse x] ∧ faults' = goneIn faults .triggerLate ∧ late' = late
  drops : ∀ start, held = some start → 2000 < duration now start →
    out' = out ∧ faults' = raisedIn faults .triggerLate ∧ late' = satInc late

section
variable {now : PartTime} {x : Side} {held : Option PartTime} {late late' : Nat} {faults faults' : FaultSet}
  {out out' : List Output}

theorem Release.out_of_fires (R : Release now x held late faults out late' faults' out')
    (h : ∃ start, held = some start ∧ duration now start ≤ 2000) : out' = out ++ [.pulse x] :=
  have ⟨start, hs, hd⟩ := h
  (R.fires start hs hd).1

theorem Release.out_of_not_fires (R : Release now x held late faults out late' faults' out')
    (h : ¬∃ start, held = some start ∧ duration now start ≤ 2000) : out' = out := by
  cases hh : held with
  | none => exact (R.none hh).1
  | some start => exact (R.drops start hh (Nat.lt_of_not_le fun hd => h ⟨start, hh, hd⟩)).1

theorem Release.late_of_drops (R : Release now x held late faults out late' faults' out')
    (h : ∃ start, held = some start ∧ 2000 < duration now start) : late' = satInc late :=
  have ⟨start, hs, hd⟩ := h
  (R.drops start hs hd).2.2

theorem Release.late_of_not_drops (R : Release now x held late faults out late' faults' out')
    (h : ¬∃ start, held = some start ∧ 2000 < duration now start) : late' = late := by
  cases hh : held with
  | none => exact (R.none hh).2.2
  | some start => exact (R.fires start hh (Nat.le_of_not_lt fun hd => h ⟨start, hh, hd⟩)).2.2

theorem Release.faults_of_fires (R : Release now x held late faults out late' faults' out')
    (h : ∃ start, held = some start ∧ duration now start ≤ 2000) : faults' = goneIn faults .triggerLate :=
  have ⟨start, hs, hd⟩ := h
  (R.fires start hs hd).2.1

theorem Release.raised_of_drops (R : Release now x held late faults out late' faults' out')
    (h : ∃ start, held = some start ∧ 2000 < duration now start) : faults'.get .triggerLate = .active := by
  obtain ⟨start, hs, hd⟩ := h
  rw [(R.drops start hs hd).2.1, raisedIn_get, if_pos rfl]

/-- A release changes TRIGGER_LATE alone, and nothing where no trigger was held. -/
theorem Release.get_other (R : Release now x held late faults out late' faults' out') {k : FaultKind}
    (h : k = .triggerLate → held = .none) : faults'.get k = faults.get k := by
  cases hh : held with
  | none => rw [(R.none hh).2.1]
  | some start =>
    have hk : k ≠ .triggerLate := fun e => by simp [h e] at hh
    by_cases hd : duration now start ≤ 2000
    · rw [(R.fires start hh hd).2.1, goneIn_get, if_neg fun e => hk e.1]
    · rw [(R.drops start hh (Nat.lt_of_not_le hd)).2.1, raisedIn_get, if_neg hk]

end

section
variable {s : State} {x : Side} {d : SideState} {out : List Output} {handed brief : List Transition} {f : FaultSet}
  {kinds : List FaultKind}

theorem within_clearHold :
    clearHold x (s.within x d out handed) = s.within x { d with held := none } out handed :=
  within_onSide ..

theorem within_releaseHold (T : Told x brief f d.sup.faults handed kinds) (hk : .triggerLate ∉ kinds) :
    ∃ late faults out' handed', releaseHold x (s.within x d out handed) =
        s.within x (d.released late faults) out' handed' ∧
      Told x brief f faults handed' (.triggerLate :: kinds) ∧
      Release s.now x d.held d.counters.triggersLate d.sup.faults out late faults out' := by
  unfold releaseHold
  rw [within_side, within_now]
  cases hh : d.held with
  | none =>
    refine ⟨d.counters.triggersLate, d.sup.faults, out, handed, ?_, T.weaken rfl, ?_⟩
    · obtain ⟨⟩ := d
      obtain rfl := hh
      rfl
    · exact ⟨fun _ => ⟨rfl, rfl, rfl⟩, nofun, nofun⟩
  | some start =>
    dsimp only
    rw [within_clearHold]
    by_cases hd : duration s.now start ≤ 2000
    · rw [if_pos hd, within_fire]
      refine ⟨d.counters.triggersLate, goneIn d.sup.faults .triggerLate, _, _, rfl, T.gone hk rfl, nofun,
        fun _ _ _ => ⟨rfl, rfl, rfl⟩, fun _ h hl => ?_⟩
      obtain rfl := Option.some.inj h
      omega
    · rw [if_neg hd, within_dropLate]
      refine ⟨satInc d.counters.triggersLate, raisedIn d.sup.faults .triggerLate, _, _, rfl, T.raise hk rfl, nofun,
        fun _ h hl => ?_, fun _ _ _ => ⟨rfl, rfl, rfl⟩⟩
      obtain rfl := Option.some.inj h
      omega

end

/-! ## A frame that passes (O32) -/

theorem unchanged_iff {f : FrameInProgress} {p : Port} :
    unchanged f p = true ↔ p.prevNumber = some f.number ∨ p.prevSignature = some (~~~f.signature) := by
  simp [unchanged]

theorem shapeCheck_iff {f : FrameInProgress} :
    shapeCheck f = true ↔ f.lineCount = 1080 ∧ f.shapeGood = true ∧ 1117 ≤ f.length ∧ f.length ≤ 1133 := by
  simp [shapeCheck, and_assoc]

/-- The set after the check of R16. -/
def frozenFaults (f : FrameInProgress) (p : Port) (faults : FaultSet) : FaultSet :=
  if unchanged f p then (if p.frozenRun + 1 = 3 then raisedIn faults .sensorFrozen else faults)
  else goneIn faults .sensorFrozen

theorem within_frozenCheck {s : State} {x : Side} {d : SideState} {out : List Output}
    {handed brief : List Transition} {g : FaultSet} {kinds : List FaultKind} (f : FrameInProgress) (p : Port)
    (T : Told x brief g d.sup.faults handed kinds) (hk : .sensorFrozen ∉ kinds) :
    ∃ handed', frozenCheck x f p (s.within x d out handed) =
        s.within x (d.withFaults (frozenFaults f p d.sup.faults)) out handed' ∧
      Told x brief g (frozenFaults f p d.sup.faults) handed' (.sensorFrozen :: kinds) := by
  unfold frozenCheck frozenFaults
  split
  · split
    · rw [within_raise]
      exact ⟨_, rfl, T.raise hk rfl⟩
    · exact ⟨handed, rfl, T.weaken rfl⟩
  · rw [within_gone]
    exact ⟨_, rfl, T.gone hk rfl⟩

theorem frozenFaults_other {f : FrameInProgress} {p : Port} {faults : FaultSet} {k : FaultKind}
    (h : k ≠ .sensorFrozen) : (frozenFaults f p faults).get k = faults.get k := by
  unfold frozenFaults
  split
  · split
    · rw [raisedIn_get, if_neg h]
    · rfl
  · rw [goneIn_get, if_neg fun e => h e.1]

/-- Statistics completion touches the sets of the three blocks that hold them. -/
theorem completeStatistics_eq (d : SideState) : completeStatistics d =
    { d with
      stats := (completeStatistics d).stats, exposure := (completeStatistics d).exposure,
      glare := (completeStatistics d).glare } := by
  unfold completeStatistics
  split <;> rfl

theorem completeStatistics_none {d : SideState} (h : d.stats.collecting = none) : completeStatistics d = d := by
  unfold completeStatistics
  rw [h]

theorem completeStatistics_some {d : SideState} {c : Collecting} (h : d.stats.collecting = some c) :
    (completeStatistics d).stats = ⟨none, some (completeSet c)⟩ ∧
      (completeStatistics d).exposure = { d.exposure with waiting := d.exposure.waiting ++ [completeSet c] } ∧
      (completeStatistics d).glare = { d.glare with waiting := d.glare.waiting ++ [completeSet c] } := by
  unfold completeStatistics
  rw [h]
  exact ⟨rfl, rfl, rfl⟩

theorem exec_frameEndArrival_good {x : Side} {f : FrameInProgress} {s : State} (hp : s.powered = true)
    (hv : (s.side x).sup.view ≠ .off) (hf : (s.side x).port.frame = some f) (hc : shapeCheck f = true) :
    exec (.frameEndArrival x) s = .next (settle (releaseHold x
      (frozenCheck x f (s.side x).port (s.within x (passGood f (s.side x)) [] [])))) := by
  refine (event_powered hp _).trans (congrArg _ ?_)
  unfold frameEnd
  rw [beginEvent_within s x]
  simp only [within_side, hf, if_neg hv, hc, if_true, within_onSide]

/-- A side after a good frame and the release of its hold. -/
def SideState.passed (f : FrameInProgress) (late : Nat) (faults : FaultSet) (d : SideState) : SideState :=
  { d with
    held := none, port := d.port.good f, stats := (completeStatistics d).stats,
    exposure := (completeStatistics d).exposure, glare := (completeStatistics d).glare,
    ring := d.ring.complete, counters := { countGood d.ring d.counters with triggersLate := late },
    sup := { d.sup with faults := faults } }

theorem passed_faults (f : FrameInProgress) (late : Nat) (faults : FaultSet) (d : SideState) :
    (d.passed f late faults).sup.faults = faults := rfl

theorem released_passGood (f : FrameInProgress) (late : Nat) (faults : FaultSet) (d : SideState) :
    (passGood f d).released late faults = d.passed f late faults := by
  unfold SideState.passed SideState.released passGood
  rw [completeStatistics_eq]

theorem passGood_held (f : FrameInProgress) (d : SideState) : (passGood f d).held = d.held := by
  unfold passGood
  rw [completeStatistics_eq]

/-- A good frame up to the settling of its event. -/
theorem goodFrame_within (x : Side) (f : FrameInProgress) (s : State) :
    ∃ late faults out handed,
      releaseHold x (frozenCheck x f (s.side x).port (s.within x (passGood f (s.side x)) [] [])) =
        s.within x ((s.side x).passed f late faults) out handed ∧
      Told x [] (s.faults x) faults handed [.triggerLate, .sensorFrozen] ∧
      Release s.now x (s.side x).held (s.side x).counters.triggersLate
        (frozenFaults f (s.side x).port (s.faults x)) [] late faults out := by
  have hsup : (passGood f (s.side x)).sup = (s.side x).sup := by unfold passGood; rw [completeStatistics_eq]
  have T : Told x [] (s.faults x) (passGood f (s.side x)).sup.faults [] [] := hsup ▸ Told.nil x (s.faults x)
  obtain ⟨handed, hz, T'⟩ := within_frozenCheck (s := s) (out := []) f (s.side x).port T (by simp)
  rw [hz]
  obtain ⟨late, faults, out, handed', hr, T'', R⟩ := within_releaseHold (s := s) (out := [])
    (d := (passGood f (s.side x)).withFaults (frozenFaults f (s.side x).port (passGood f (s.side x)).sup.faults))
    T' (by simp)
  replace R : Release s.now x (passGood f (s.side x)).held (s.side x).counters.triggersLate
    (frozenFaults f (s.side x).port (passGood f (s.side x)).sup.faults) [] late faults out := R
  rw [passGood_held, hsup] at R
  exact ⟨late, faults, out, handed', hr.trans (by rw [← released_passGood]; rfl), T'', R⟩

/-- Settles O32. -/
theorem goodFrameEndPassesTheFrame : Obligations.GoodFrameEndPassesTheFrame := by
  intro x f s hp hv hf hlines hshape hlo hhi hl
  have hc : shapeCheck f = true := shapeCheck_iff.2 ⟨hlines, hshape, hlo, hhi⟩
  refine ⟨_, exec_frameEndArrival_good hp hv hf hc, ?_⟩
  obtain ⟨late, faults, out, handed, he, T, R⟩ := goodFrame_within x f s
  rw [he]
  obtain ⟨hone, hrep, hon, hview, hmap⟩ := settle_within (out := out) (d := (s.side x).passed f late faults) T hl
    rfl rfl
  have hfrozen : faults.get .sensorFrozen = (frozenFaults f (s.side x).port (s.faults x)).get .sensorFrozen :=
    R.get_other nofun
  refine ⟨hone, hrep, hon, hview, hmap, settle_within_sup rfl, ?_⟩
  simp only [settle_within_side, settle_within_faults, settle_within_out, passed_faults, ← unchanged_iff]
  refine ⟨rfl, fun h => if_pos h, fun h => if_neg h, rfl, R.out_of_fires, R.out_of_not_fires, rfl, fun c hc => ?_,
    fun hc => ?_, R.late_of_drops, R.late_of_not_drops, ?_, fun h h2 => ?_, fun h h2 => ?_, fun h => ?_,
    R.raised_of_drops, fun h => ?_, fun k h1 h2 => ?_, ?_⟩
  · obtain ⟨h1, h2, h3⟩ := completeStatistics_some hc
    exact ⟨h1, h2, h3⟩
  · have h := completeStatistics_none hc
    have stats : (completeStatistics (s.side x)).stats = (s.side x).stats := congrArg _ h
    have exposure : (completeStatistics (s.side x)).exposure = (s.side x).exposure := congrArg _ h
    have glare : (completeStatistics (s.side x)).glare = (s.side x).glare := congrArg _ h
    exact ⟨stats, exposure, glare⟩
  · rfl
  · rw [hfrozen, frozenFaults, if_pos h, if_pos (by omega), raisedIn_get, if_pos rfl]
  · rw [hfrozen, frozenFaults, if_pos h, if_neg (by omega)]
  · rw [hfrozen, frozenFaults, if_neg h]
  · rw [R.faults_of_fires h, goneIn_get, goneIn_get, frozenFaults_other (by decide)]
  · rw [R.get_other h2, frozenFaults_other h1]
  · rfl

/-! ## A frame given up (O33, O34) -/

/-- A side after a frame was found malformed and given up. -/
def SideState.givenUp (d : SideState) : SideState :=
  { abandonFrame d with counters := { d.counters with malformed := satInc d.counters.malformed } }

theorem exec_frameEndArrival_failed {x : Side} {f : FrameInProgress} {s : State} (hp : s.powered = true)
    (hv : (s.side x).sup.view ≠ .off) (hf : (s.side x).port.frame = some f) (hc : ¬shapeCheck f = true)
    (ha : (s.faults x).get .frameMalformed = .absent) :
    exec (.frameEndArrival x) s =
      .next (settle (releaseHold x (s.within x (s.side x).givenUp [] (malformedBriefly x)))) := by
  refine (event_powered hp _).trans (congrArg _ ?_)
  unfold frameEnd
  rw [beginEvent_within s x]
  simp only [within_side, hf, if_neg hv, hc, within_onSide]
  rw [if_neg Bool.false_ne_true, within_malformed s x (abandonFrame (s.side x)) [] ha]
  rfl

theorem not_shapeCheck {f : FrameInProgress}
    (h : f.lineCount ≠ 1080 ∨ f.shapeGood = false ∨ f.length < 1117 ∨ 1133 < f.length) : ¬shapeCheck f = true := by
  rw [shapeCheck_iff]
  rintro ⟨h1, h2, h3, h4⟩
  simp only [h1, h2, ne_eq, not_true_eq_false, Bool.true_eq_false, false_or] at h
  omega

/-- Settles O33. -/
theorem failedFrameEndGivesTheFrameUp : Obligations.FailedFrameEndGivesTheFrameUp := by
  intro x f s hp hv hf hfail hlaw hl
  refine ⟨_, exec_frameEndArrival_failed hp hv hf (not_shapeCheck hfail) (hlaw.2 x).2, ?_⟩
  obtain ⟨late, faults, out, handed, he, T, R⟩ := within_releaseHold (s := s) (d := (s.side x).givenUp) (out := [])
    (Told.malformed x (s.faults x)) (by simp)
  replace R : Release s.now x (s.side x).held (s.side x).counters.triggersLate (s.faults x) [] late faults out := R
  rw [he]
  obtain ⟨hone, hrep, hon, hview, hmap⟩ := settle_within (out := out)
    (d := SideState.released late faults (s.side x).givenUp) T hl rfl rfl
  refine ⟨hone, hrep, hon, hview, hmap, settle_within_sup rfl, ?_⟩
  simp only [settle_within_side, settle_within_faults, settle_within_out, released_faults]
  exact ⟨rfl, R.out_of_fires, R.out_of_not_fires, fun h => ⟨R.late_of_drops h, R.raised_of_drops h⟩,
    R.late_of_not_drops, fun h => by rw [R.faults_of_fires h]; exact goneIn_auto_absent hlaw x rfl,
    fun _ => R.get_other⟩

/-- A side whose link was found lost. -/
def SideState.linkLost (d : SideState) : SideState :=
  { d with
    port := { d.port with linkLost := none },
    sup := { d.sup with faults := raisedIn d.sup.faults .linkLost } }

/-- The transition of a link found lost. -/
def lostTransitions (x : Side) (f : FaultSet) : List Transition :=
  [] ++ if f.get .linkLost = .active then [] else [⟨.linkLost, .raised, sideScope x, .plain⟩]

theorem linkLost_faults (d : SideState) : d.linkLost.sup.faults = raisedIn d.sup.faults .linkLost := rfl

theorem told_linkLost (x : Side) (f : FaultSet) :
    Told x [] f (raisedIn f .linkLost) (lostTransitions x f) [.linkLost] :=
  (Told.nil x f).raise (by simp) rfl

theorem exec_linkLostTimerExpiry {x : Side} {s : State} (hp : s.powered = true)
    (hd : due (s.side x).port.linkLost s.now = true) :
    exec (.linkLostTimerExpiry x) s = .next (settle (
      if (s.side x).port.frame.isSome
      then releaseHold x (s.within x (abandonFrame (s.side x).linkLost) [] (lostTransitions x (s.faults x)))
      else s.within x (s.side x).linkLost [] (lostTransitions x (s.faults x)))) := by
  refine (event_powered hp _).trans (congrArg _ ?_)
  rw [State.beginEvent_side, State.beginEvent_now, if_pos hd]
  unfold linkLostExpired
  rw [beginEvent_within s x]
  simp only [within_side, within_onSide, within_raise]
  rfl

/-- Settles O34, at an IDLE and at a RECEIVING port. -/
theorem linkLostTimerRaisesAndAbandons : Obligations.LinkLostTimerRaisesAndAbandons := by
  intro x s hp hd hl
  refine ⟨_, exec_linkLostTimerExpiry hp hd, ?_⟩
  have T := told_linkLost x (s.faults x)
  cases hf : (s.side x).port.frame with
  | none =>
    rw [if_neg (by simp)]
    obtain ⟨hone, hrep, hon, hview, hmap⟩ := settle_within (out := []) (d := (s.side x).linkLost) T hl rfl rfl
    refine ⟨hone, hrep, hon, hview, hmap, settle_within_sup rfl, ?_⟩
    simp only [settle_within_side, settle_within_faults, settle_within_out, linkLost_faults]
    refine ⟨(raisedIn_get ..).trans (if_pos rfl), fun k h _ => (raisedIn_get ..).trans (if_neg h),
      fun _ => ⟨trivial, ?_⟩, nofun⟩
    rfl
  | some f =>
    rw [if_pos Option.isSome_some]
    obtain ⟨late, faults, out, handed, he, T, R⟩ := within_releaseHold (s := s)
      (d := abandonFrame (s.side x).linkLost) (out := []) T (by simp)
    replace R : Release s.now x (s.side x).held (s.side x).counters.triggersLate (raisedIn (s.faults x) .linkLost) []
      late faults out := R
    rw [he]
    obtain ⟨hone, hrep, hon, hview, hmap⟩ := settle_within (out := out)
      (d := SideState.released late faults (abandonFrame (s.side x).linkLost)) T hl rfl rfl
    refine ⟨hone, hrep, hon, hview, hmap, settle_within_sup rfl, ?_⟩
    simp only [settle_within_side, settle_within_faults, settle_within_out, released_faults]
    refine ⟨?_, fun k hk hheld => ?_, nofun, fun _ => ⟨rfl, fun h => ?_, fun start h =>
      ⟨fun hlate => ?_, fun hlate => ?_⟩⟩⟩
    · rw [R.get_other (k := .linkLost) nofun, raisedIn_get, if_pos rfl]
    · rw [R.get_other fun e => (hheld e).resolve_left nofun, raisedIn_get, if_neg hk]
    · obtain ⟨hout, -, hcount⟩ := R.none h
      exact ⟨hout, released_counters late faults (abandonFrame (s.side x).linkLost) hcount⟩
    · obtain ⟨hout, hset, hcount⟩ := R.fires start h hlate
      refine ⟨hout, ?_, released_counters late faults (abandonFrame (s.side x).linkLost) hcount⟩
      simp [hset, goneIn_get, raisedIn_get]
    · obtain ⟨hout, hset, hcount⟩ := R.drops start h hlate
      exact ⟨hout, by rw [hset, raisedIn_get, if_pos rfl], hcount⟩

end Sys2Proof.Machine

/-! # The VSYNC of a running side (O42)

The event up to its settling is `State.within` of `atVsync`; the output frame sent after the settling changes the
display and its counters alone. -/

namespace Sys2Proof.Machine

/-- The set after the supervisor's checks of a VSYNC (R120, R146). -/
def vsyncFaults (d : SideState) : FaultSet :=
  match d.ring.outcome with
  | .fresh => goneIn (goneIn d.sup.faults .startTimeout) .displayRepeat
  | .repeated =>
    if d.display.repeatLimit ≤ d.ring.choose.repeatRun then raisedIn d.sup.faults .displayRepeat else d.sup.faults
  | .noFrame => d.sup.faults

/-- The view state before the event settles: a fresh frame ends STARTING (R146). -/
def vsyncView (d : SideState) : ViewState :=
  if d.ring.outcome = .fresh ∧ d.sup.view = .starting then evaluated (vsyncFaults d) else d.sup.view

/-- A side at a VSYNC before the event settles. -/
def SideState.atVsync (d : SideState) : SideState :=
  { vsyncBlocks d with
    sup := { d.sup with
      view := vsyncView d,
      startTimer := if d.ring.outcome = .fresh then none else d.sup.startTimer,
      faults := vsyncFaults d } }

theorem vsyncBlocks_display (d : SideState) : (vsyncBlocks d).display = d.display := rfl

theorem vsyncBlocks_ring (d : SideState) : (vsyncBlocks d).ring = d.ring.choose := rfl

theorem within_setView {s : State} {x : Side} {d : SideState} {out : List Output} {handed : List Transition}
    {v : ViewState} (h : d.sup.view ≠ .normal) :
    setView x v (s.within x d out handed) = s.within x { d with sup := { d.sup with view := v } } out handed := by
  rw [setView_eq, within_side, if_neg fun e => h e.1]
  cases x <;> rfl

theorem within_freshFrame (s : State) (x : Side) (d : SideState) (out : List Output) (handed : List Transition) :
    freshFrame x (s.within x d out handed) =
      s.within x { d with sup := { d.sup with startTimer := none, faults := goneIn d.sup.faults .startTimeout } } out
        (handed ++ if d.sup.faults.get .startTimeout = .active
          then [⟨.startTimeout, .cleared, sideScope x, goneFlag .startTimeout⟩] else []) := by
  unfold freshFrame
  rw [within_onSide, within_gone]
  rfl

/-- STARTING ended where the side is in it. -/
theorem within_leaveStarting (s : State) (x : Side) (d : SideState) (out : List Output) (handed : List Transition) :
    (if ((s.within x d out handed).side x).sup.view = .starting
      then setView x (evaluated ((s.within x d out handed).faults x)) (s.within x d out handed)
      else s.within x d out handed) =
      s.within x { d with sup := { d.sup with
        view := if d.sup.view = .starting then evaluated d.sup.faults else d.sup.view } } out handed := by
  rw [within_side, within_faults]
  by_cases hv : d.sup.view = .starting
  · rw [if_pos hv, if_pos hv, within_setView fun e => nomatch hv.symm.trans e]
  · rw [if_neg hv, if_neg hv]

/-- The supervisor's part of a VSYNC, by the outcome of the ring's choice. -/
theorem vsync_within (s : State) (x : Side) : ∃ handed kinds,
    endStarting x (s.side x).ring.outcome (repeatCheck x (s.side x).ring.outcome
      (if (s.side x).ring.outcome = .fresh then freshFrame x (s.within x (vsyncBlocks (s.side x)) [] [])
        else s.within x (vsyncBlocks (s.side x)) [] [])) = s.within x (s.side x).atVsync [] handed ∧
      Told x [] (s.faults x) (vsyncFaults (s.side x)) handed kinds := by
  have T := Told.nil x (s.faults x)
  unfold SideState.atVsync vsyncView vsyncFaults endStarting repeatCheck
  cases ho : (s.side x).ring.outcome with
  | fresh =>
    simp only [if_true, true_and]
    rw [within_freshFrame, within_gone]
    refine ⟨_, _, ?_, (T.gone (k := .startTimeout) (by simp) rfl).gone (k := .displayRepeat) (by simp) rfl⟩
    rw [within_leaveStarting]
    rfl
  | repeated =>
    simp only [reduceCtorEq, if_false, false_and, within_side, vsyncBlocks_display, vsyncBlocks_ring]
    by_cases hr : (s.side x).display.repeatLimit ≤ (s.side x).ring.choose.repeatRun
    · rw [if_pos hr, if_pos hr, within_raise]
      exact ⟨_, _, rfl, T.raise (k := .displayRepeat) (by simp) rfl⟩
    · rw [if_neg hr, if_neg hr]
      exact ⟨_, _, rfl, T⟩
  | noFrame =>
    simp only [reduceCtorEq, if_false, false_and]
    exact ⟨_, _, rfl, T⟩

/-! ## The output frame after the settling -/

/-- A side with another display and other counters. -/
def SideState.withSent (e d : SideState) : SideState :=
  { d with display := e.display, counters := e.counters }

theorem settle_now (s : State) : (settle s).now = s.now := by rw [settle_eq]

theorem settle_timing (s : State) : (settle s).timing = s.timing := by rw [settle_eq]

/-- Sending the frame after the settling gives the state that settles with the frame sent. -/
theorem onSide_sendFrame_settle (s : State) (x : Side) (d : SideState) (out : List Output) (handed : List Transition)
    (period : Nat) :
    (settle (s.within x d out handed)).onSide x (sendFrame x s.now period) =
      settle (s.within x ((sendFrame x s.now period (settledSide x handed d)).withSent d) out handed) := by
  rw [settle_eq, settle_eq]
  cases x <;> rfl

theorem exec_vsyncExpiry {x : Side} {s : State} (hp : s.powered = true) (hd : (s.side x).vsync.due s.now = true)
    (hv : (s.side x).sup.view ≠ .off) : ∃ handed kinds,
      exec (.vsyncExpiry x) s = .next (settle (s.within x ((sendFrame x s.now s.timing.framePeriod
        (settledSide x handed (s.side x).atVsync)).withSent (s.side x).atVsync) [] handed)) ∧
      Told x [] (s.faults x) (vsyncFaults (s.side x)) handed kinds := by
  obtain ⟨handed, kinds, hw, T⟩ := vsync_within s x
  refine ⟨handed, kinds, (event_powered hp _).trans (congrArg _ ?_), T⟩
  rw [State.beginEvent_side, State.beginEvent_now, if_pos hd]
  unfold vsyncExpired showFrame
  rw [beginEvent_within s x]
  simp only [within_side, if_neg hv, within_onSide]
  rw [hw, ← onSide_sendFrame_settle, settle_now, settle_timing, within_now, within_timing]

/-! ## The view state after a fresh frame (R146) -/

theorem evaluated_ne_starting (f : FaultSet) : evaluated f ≠ .starting := by
  unfold evaluated
  split
  · decide
  · split <;> decide

theorem vsyncView_fresh {d : SideState} (h : d.ring.outcome = .fresh) :
    vsyncView d = if d.sup.view = .starting then evaluated (vsyncFaults d) else d.sup.view := by
  simp [vsyncView, h]

theorem vsyncView_of_not_fresh {d : SideState} (h : d.ring.outcome ≠ .fresh) : vsyncView d = d.sup.view :=
  if_neg fun e => h e.1

/-- The view state that a running side has after a fresh frame is its evaluated state. -/
theorem settledView_fresh {s : State} {x : Side} {handed : List Transition} {kinds : List FaultKind}
    (ho : (s.side x).ring.outcome = .fresh) (hv : (s.side x).sup.view ≠ .off) (hl : ViewLaw s)
    (T : Told x [] (s.faults x) (vsyncFaults (s.side x)) handed kinds) :
    settledView x handed (s.side x).atVsync = evaluated (vsyncFaults (s.side x)) := by
  have hx := hl x
  have hview : (s.side x).atVsync.sup.view = vsyncView (s.side x) := rfl
  have hset : (s.side x).atVsync.sup.faults = vsyncFaults (s.side x) := rfl
  unfold settledView nextView
  rw [hview, hset, vsyncView_fresh ho]
  cases ht : touched x handed with
  | false =>
    rw [T.touched ht]
    cases hs : (s.side x).sup.view <;> simp_all
  | true =>
    cases hs : (s.side x).sup.view with
    | off => exact absurd hs hv
    | starting =>
      simp only [if_true]
      cases he : evaluated (vsyncFaults (s.side x)) with
      | off => exact absurd he (evaluated_ne_off _)
      | starting => exact absurd he (evaluated_ne_starting _)
      | _ => rfl
    | _ => rfl

/-- The map is published for a departure from NORMAL alone, also where a fresh frame ends STARTING. -/
theorem vsync_gain {s : State} {x : Side} {handed : List Transition} {kinds : List FaultKind}
    (hv : (s.side x).sup.view ≠ .off) (hl : ViewLaw s)
    (T : Told x [] (s.faults x) (vsyncFaults (s.side x)) handed kinds) :
    (settledSide x handed (s.side x).atVsync).gain =
      if (s.side x).sup.view = .normal ∧ settledView x handed (s.side x).atVsync ≠ .normal
      then ⟨unityGains, (s.side x).gain.version + 1⟩ else (s.side x).gain := by
  have hgain : (s.side x).atVsync.gain = (s.side x).gain := rfl
  have hview : (s.side x).atVsync.sup.view = vsyncView (s.side x) := rfl
  unfold settledSide
  rw [hgain, hview]
  by_cases ho : (s.side x).ring.outcome = .fresh
  · rw [settledView_fresh ho hv hl T, vsyncView_fresh ho]
    by_cases hs : (s.side x).sup.view = .starting
    · simp only [hs, if_true, ne_eq, and_not_self, if_false, reduceCtorEq, false_and]
    · simp only [hs, if_false]
  · rw [vsyncView_of_not_fresh ho]

/-! ## What the frame shows -/

theorem slewValue_eq (v target : Nat) : slewValue v target =
    if max v target - min v target ≤ 24 then target else if v < target then v + 24 else v - 24 := by
  obtain ⟨h1, h2, h⟩ | ⟨h1, h⟩ | ⟨h1, h⟩ := slewValue_cases v target
  · rw [h, if_pos (by omega)]
  · rw [h, if_neg (by omega), if_pos (by omega)]
  · rw [h, if_neg (by omega), if_neg (by omega)]

theorem showsImage_iff {v : ViewState} {r : Ring} :
    showsImage v r = true ↔ (v = .normal ∨ v = .degraded) ∧ r.has .showing = true := by
  simp [showsImage]

theorem markerRows_eq (g : Geometry) : markerRows g = g.markers.filterMap fun m => m.bind fun y =>
    if g.mainShown.y ≤ y ∧ y < g.mainShown.y + g.mainShown.h then some ((y - g.mainShown.y) * 520 / g.mainShown.h)
    else none := by
  unfold markerRows
  congr 1
  funext m
  cases m <;> rfl

theorem compose_blanked {d : SideState} (h : d.sup.view = .blanked) : compose d = .blankedPattern := by
  unfold compose
  rw [h]

theorem compose_pattern {d : SideState} (h : ¬showsImage d.sup.view d.ring = true) (hb : d.sup.view ≠ .blanked) :
    compose d = .startingPattern := by
  unfold compose
  cases hv : d.sup.view <;> simp_all [showsImage]

theorem compose_image {d : SideState} {slot : Slot} (h : showsImage d.sup.view d.ring = true)
    (hs : d.ring.find .showing = some slot) :
    compose d = .image slot.rows d.geometry.mainShown d.geometry.wideShown (markerRows d.geometry)
      (decide (d.sup.view = .degraded)) := by
  have rows : shownRows d.ring = slot.rows := by rw [shownRows, hs]
  obtain ⟨hv | hv, hr⟩ := showsImage_iff.1 h <;> simp [compose, hv, hr, rows]

/-- Four bytes hold a capture time modulo 2^32. -/
theorem le_four_mod (v : Nat) : le 4 (v % 2 ^ 32) = le 4 v := by
  simp only [le, List.cons.injEq, and_true]
  refine ⟨?_, ?_, ?_, ?_⟩ <;> exact BitVec.eq_of_toNat_eq (by simp only [BitVec.toNat_ofNat]; omega)

theorem tagFields_eq (x : Side) (n : Word16) (d : SideState) : tagFields x n d =
    le 1 (sideCode x) ++ le 2 n.toNat ++ le 2 (((shownFrame d).map fun r => r.number.toNat).getD 0) ++
      le 4 (((shownFrame d).map fun r => r.captureTime.toNat % 2 ^ 32).getD 0) ++
      le 2 (((shownFrame d).map FrameRecord.exposure).getD 0) ++ le 1 (viewCode d.sup.view) ++
      le 1 (overrideBits d.geometry.overrides) ++ le 2 (((shownFrame d).map fun r => r.version.toNat).getD 0) := by
  have time : le 4 (((shownFrame d).map fun r => r.captureTime.toNat % 2 ^ 32).getD 0) =
      le 4 (((shownFrame d).map fun r => r.captureTime.toNat).getD 0) := by
    cases shownFrame d with
    | none => rfl
    | some r => exact le_four_mod _
  rw [time]
  rfl

/-- The set after a fresh frame, kind by kind (R120, R146). -/
theorem vsyncFaults_fresh {d : SideState} (h : d.ring.outcome = .fresh) (k : FaultKind) :
    (vsyncFaults d).get k =
      if k = .displayRepeat ∨ k = .startTimeout then (goneIn d.sup.faults k).get k else d.sup.faults.get k := by
  unfold vsyncFaults
  rw [h]
  simp only [goneIn_get]
  by_cases h1 : k = .displayRepeat
  · subst h1
    simp
  · by_cases h2 : k = .startTimeout
    · subst h2
      simp
    · simp [h1, h2]

theorem vsyncFaults_repeated {d : SideState} (h : d.ring.outcome = .repeated) : vsyncFaults d =
    if d.display.repeatLimit ≤ d.ring.choose.repeatRun then raisedIn d.sup.faults .displayRepeat else d.sup.faults := by
  unfold vsyncFaults
  rw [h]

theorem vsyncFaults_noFrame {d : SideState} (h : d.ring.outcome = .noFrame) : vsyncFaults d = d.sup.faults := by
  unfold vsyncFaults
  rw [h]

/-- A side after a VSYNC, its view state and map left open. -/
def SideState.shown (x : Side) (now : PartTime) (period : Nat) (handed : List Transition) (d : SideState) :
    SideState :=
  sendFrame x now period (settledSide x handed d.atVsync)

theorem settle_shown_side (s : State) (x : Side) (out : List Output) (handed : List Transition) (period : Nat)
    (d : SideState) :
    (settle (s.within x ((sendFrame x s.now period (settledSide x handed d.atVsync)).withSent d.atVsync) out
      handed)).side x = d.shown x s.now period handed := by
  rw [settle_within_side]
  rfl

theorem vsync_counters {x : Side} {now : PartTime} {period : Nat} (handed : List Transition) (d : SideState) :
    (d.shown x now period handed).counters = { d.counters with
      repeated := if d.ring.outcome = .repeated then satInc d.counters.repeated else d.counters.repeated,
      neverEchoed := if d.display.history.length < 8 then d.counters.neverEchoed
        else satInc d.counters.neverEchoed } := by
  have counters : (d.shown x now period handed).counters = { (vsyncBlocks d).counters with
      neverEchoed := if d.display.history.length < 8 then (vsyncBlocks d).counters.neverEchoed
        else satInc (vsyncBlocks d).counters.neverEchoed } := rfl
  rw [counters]
  unfold vsyncBlocks
  by_cases h : d.ring.outcome = .repeated <;> simp only [h, if_true, if_false]

/-- The record shown and the content of a frame, by the view state and the ring (R122). -/
theorem sent_frame (d : SideState) (image : Prop)
    (hi : image ↔ (d.sup.view = .normal ∨ d.sup.view = .degraded) ∧ d.ring.has .showing = true) :
    (image → shownFrame d = d.ring.shownRecord) ∧ (¬image → shownFrame d = none) ∧
      (d.sup.view = .blanked → compose d = .blankedPattern) ∧
      (¬image → d.sup.view ≠ .blanked → compose d = .startingPattern) ∧
      (image → ∀ slot, d.ring.find .showing = some slot →
        compose d = .image slot.rows d.geometry.mainShown d.geometry.wideShown (markerRows d.geometry)
          (decide (d.sup.view = .degraded))) := by
  rw [← showsImage_iff] at hi
  exact ⟨fun h => if_pos (hi.1 h), fun h => if_neg fun e => h (hi.2 e), compose_blanked,
    fun h => compose_pattern fun e => h (hi.2 e), fun h _ => compose_image (hi.1 h)⟩

/-- Settles O42. -/
theorem vsyncShowsOneNumberedFrame : Obligations.VsyncShowsOneNumberedFrame := by
  intro x s hp hd hv hl hlen
  obtain ⟨handed, kinds, he, T⟩ := exec_vsyncExpiry hp hd hv
  refine ⟨_, he, oneSide_settle T.scope, settle_within_out, reported_settle (within_now ..) (within_reports ..),
    handedOn_settle T, ?_, ?_⟩
  · unfold MapFollows
    rw [settle_shown_side]
    exact vsync_gain hv hl T
  · simp only [settle_shown_side, settle_within_faults]
    refine ⟨rfl, ?_, rfl, ?_, ?_, rfl, fun ho => ⟨settledView_fresh ho hv hl T, vsyncFaults_fresh ho⟩,
      vsyncFaults_repeated, vsyncFaults_noFrame, ?_, rfl⟩
    · change slew (s.side x).geometry = _
      simp only [slew, slewWindow, slewValue_eq]
    · obtain ⟨hrecord, hnone, hblanked, hpattern, himage⟩ :=
        sent_frame (settledSide x handed (s.side x).atVsync) _ Iff.rfl
      refine ⟨_, _, _, hrecord, hnone, tagFields_eq x ((s.side x).display.number + 1) _, hblanked, hpattern, ?_, ?_⟩
      · intro hi slot hs
        have geometry : (settledSide x handed (s.side x).atVsync).geometry = slew (s.side x).geometry := rfl
        rw [himage hi slot hs, markerRows_eq, geometry]
        simp only [slew, slewWindow, slewValue_eq]
        rfl
      · rfl
    · exact vsync_counters handed (s.side x)
    · intro ho
      exact viewFollows_settle hl (by rw [within_side]; exact vsyncView_of_not_fresh ho) fun h => by
        rw [within_faults]; exact T.touched h

end Sys2Proof.Machine

/-! # Setting requests (O51)

Three of the four act alike on each side named; `exec_perSide` says so once. The corrections are then compared with the
forms in which the rules state them. -/

namespace Sys2Proof.Machine

/-- The sides that a code names, as a list (00_scope 3.1). -/
def namedList (n : Nat) : List Side :=
  (if names n .left then [.left] else []) ++ (if names n .right then [.right] else [])

theorem namedSides_eq {n : Nat} (h : n ≤ 2) : namedSides n = some (namedList n) := namedSides_some h

/-- A change made to each side that a side code names. -/
theorem foldl_onSide_named {n : Nat} (h : n ≤ 2) (f : SideState → SideState) (s : State) :
    (namedList n).foldl (fun u x => u.onSide x f) s =
      { s with
        left := if names n .left then f (s.side .left) else s.side .left,
        right := if names n .right then f (s.side .right) else s.side .right } := by
  match n, h with
  | 0, _ => rfl
  | 1, _ => rfl
  | 2, _ => rfl

/-- A request whose owning rule refuses a side code above 2 and changes each side named, with a reply that hangs on the
payload alone. -/
theorem exec_perSide {k : RequestKind} {p : List Byte} {s : State} {r : ResultCode} {payload : List Byte}
    {f : SideState → SideState} (tag : Byte) (h : Answerable k p s)
    (hnone : ∀ u, namedSides (uField p 0 1) = none → ownerOf k tag p u = answer u .badValue)
    (hsome : ∀ u sides, namedSides (uField p 0 1) = some sides →
      ownerOf k tag p u = answerWith (sides.foldl (fun v x => v.onSide x f) u) r payload) :
    (2 < uField p 0 1 → exec (request k tag p) s = .next (answered k tag p.length .badValue [] s)) ∧
      (uField p 0 1 ≤ 2 → exec (request k tag p) s = .next { answered k tag p.length r payload s with
        left := if names (uField p 0 1) .left then f (s.side .left) else s.side .left,
        right := if names (uField p 0 1) .right then f (s.side .right) else s.side .right }) := by
  refine ⟨fun hc => exec_request_unchanged tag h (hnone _ (namedSides_none hc)), fun hc => ?_⟩
  rw [exec_request_of_answer tag h (hsome _ _ (namedSides_eq hc)), foldl_onSide_named hc]
  rfl

theorem okOrClamped_bne {α : Type} [DecidableEq α] (a b : α) :
    okOrClamped (a != b) = if a = b then .ok else .clamped := by
  by_cases h : a = b <;> simp [okOrClamped, h]

/-! ## SET_GLARE (R73) -/

theorem clampGlare_eq (g : GlareSettings) : clampGlare g =
    ⟨max 10000 (min 598528 g.level), max 1 (min 2700 g.minHot), min 50 g.cap, max 1000 (min 598528 g.ceiling),
      max 512 (min 4096 g.floor), max 1 (min 4096 g.rampDown), max 1 (min 4096 g.rampUp)⟩ := by
  unfold clampGlare
  simp only [clampNat_eq (show 10000 ≤ 598528 by decide), clampNat_eq (show 1 ≤ 2700 by decide),
    clampNat_eq (show 0 ≤ 50 by decide), clampNat_eq (show 1000 ≤ 598528 by decide),
    clampNat_eq (show 512 ≤ 4096 by decide), clampNat_eq (show 1 ≤ 4096 by decide), Nat.zero_max]

/-! ## SET_TONE (R91) -/

/-- Each entry raised to the greatest of those up to it (step 3 of R91). -/
theorem raiseEntries_eq (b : Nat) (l : List Nat) :
    raiseEntries b l = (List.range l.length).map fun i => (l.take (i + 1)).foldl max b := by
  induction l generalizing b with
  | nil => rfl
  | cons t l ih =>
    rw [raiseEntries, ih, List.length_cons, List.range_succ_eq_map, List.map_cons, List.map_map]
    rfl

theorem correctTable_toneEntries (p : List Byte) : correctTable (toneEntries p) =
    (List.range 65).map fun i =>
      ((List.range (i + 1)).map fun j => min 1023 (uField p (3 + 2 * j) 2)).foldl max 0 := by
  unfold correctTable toneEntries
  rw [raiseEntries_eq, List.map_map]
  simp only [List.length_map, List.length_range]
  refine List.map_congr_left fun i hi => ?_
  have hi : i + 1 ≤ 65 := by simpa using hi
  rw [← List.map_take, List.take_range, Nat.min_eq_left hi]
  rfl

theorem okOrClamped_either {a b : Nat} {c d : List Nat} :
    okOrClamped (a != b || c != d) = if a = b ∧ c = d then .ok else .clamped := by
  by_cases h : a = b <;> by_cases h' : c = d <;> simp [okOrClamped, h, h']

/-! ## SET_EXPOSURE_LIMITS (R47) -/

theorem correctLimits_eq (l : ExposureLimits) : correctLimits l =
    ⟨min (max 1 (min 4096 l.emin)) (max 1 (min 4096 l.emax)), max 1 (min 4096 l.emax),
      max 1000 (min 400000 l.target),
      if max 1 (min 4096 l.eOn) = 1 then 2 else max 1 (min 4096 l.eOn),
      min (max 1 (min 4096 l.eOff))
        ((if max 1 (min 4096 l.eOn) = 1 then 2 else max 1 (min 4096 l.eOn)) - 1)⟩ := by
  unfold correctLimits
  simp only [clampNat_eq (show 1 ≤ 4096 by decide), clampNat_eq (show 1000 ≤ 400000 by decide),
    ExposureLimits.mk.injEq, true_and]
  have hon : 1 ≤ max 1 (min 4096 l.eOn) := Nat.le_max_left _ _
  have hoff : 1 ≤ max 1 (min 4096 l.eOff) := Nat.le_max_left _ _
  generalize max 1 (min 4096 l.eOn) = eOn at hon ⊢
  generalize max 1 (min 4096 l.eOff) = eOff at hoff ⊢
  refine ⟨?_, ?_, ?_⟩
  · split <;> omega
  · by_cases h : eOn = 1
    · rw [if_pos ⟨by omega, h⟩, if_pos h]
    · rw [if_neg fun e => h e.2, if_neg h]
  · by_cases h : eOn = 1
    · rw [if_pos (by omega), if_pos h, if_pos h]
      omega
    · rw [if_neg h, if_neg h]
      split <;> omega

/-! ## SET_TIMING (R8) -/

/-- The sync mode of a code that names one. -/
def codedMode (n : Nat) : SyncMode :=
  if n = 1 then .follow else .triggered

theorem modeOfCode_some {n : Nat} (h : n ≤ 1) : modeOfCode n = some (codedMode n) := by
  match n, h with
  | 0, _ => rfl
  | 1, _ => rfl

theorem modeOfCode_none {n : Nat} (h : 1 < n) : modeOfCode n = none := by
  match n, h with
  | n + 2, _ => rfl

theorem modeCode_codedMode {n : Nat} (h : n ≤ 1) : modeCode (codedMode n) = n := by
  match n, h with
  | 0, _ => rfl
  | 1, _ => rfl

theorem timingRequest_none {p : List Byte} (h : 1 < uField p 4 1 ∨ 1 < uField p 5 1) : timingRequest p = none := by
  unfold timingRequest
  obtain h | h := h
  · rw [modeOfCode_none h]
  · rw [modeOfCode_none h]
    cases modeOfCode (uField p 4 1) <;> rfl

theorem timingRequest_some {p : List Byte} (h4 : uField p 4 1 ≤ 1) (h5 : uField p 5 1 ≤ 1) :
    timingRequest p = some ⟨uField p 0 2, uField p 2 2, codedMode (uField p 4 1), codedMode (uField p 5 1),
      uField p 6 2⟩ := by
  unfold timingRequest
  rw [modeOfCode_some h4, modeOfCode_some h5]

theorem clampTiming_eq (t : Timing) : clampTiming t =
    ⟨max 16000 (min 40000 t.framePeriod), max 2000 (min 60000 t.cameraLead), t.modeLeft, t.modeRight,
      max 20 (min 2000 t.tolerance)⟩ := by
  unfold clampTiming
  simp only [clampNat_eq (show 16000 ≤ 40000 by decide), clampNat_eq (show 2000 ≤ 60000 by decide),
    clampNat_eq (show 20 ≤ 2000 by decide)]

theorem setTiming_refused {tag : Byte} {p : List Byte} {s : State} (h : Answerable .setTiming p s)
    (h4 : uField p 4 1 ≤ 1) (h5 : uField p 5 1 ≤ 1) (hv : s.left.sup.view ≠ .off ∨ s.right.sup.view ≠ .off) :
    exec (.setTiming tag p) s = .next (answered .setTiming tag p.length .refusedState [] s) := by
  refine exec_request_unchanged (k := .setTiming) tag h ?_
  simp only [ownerOf, ownSetTiming, timingRequest_some h4 h5]
  exact if_pos hv

theorem setTiming_taken {tag : Byte} {p : List Byte} {s : State} {t : Timing} (h : Answerable .setTiming p s)
    (ht : timingRequest p = some t) (hl : s.left.sup.view = .off) (hr : s.right.sup.view = .off) :
    exec (.setTiming tag p) s = .next { answered .setTiming tag p.length
      (if clampTiming t = t then .ok else .clamped) (timingBytes (clampTiming t)) s with
        timing := clampTiming t } := by
  rw [← okOrClamped_bne]
  refine exec_request_of_answer (k := .setTiming) (t := { requestTaken p.length s with timing := clampTiming t })
    tag h ?_
  simp only [ownerOf, ownSetTiming, ht]
  exact if_neg fun hv => hv.elim (· hl) (· hr)

/-- Settles O51, request by request. -/
theorem settingRequestsClampAndTakeEffect : Obligations.SettingRequestsClampAndTakeEffect := by
  intro tag p s
  refine ⟨fun h => ⟨fun hm => ?_, fun h4 h5 => ⟨setTiming_refused h h4 h5, fun hl hr => ?_⟩⟩, fun h => ?_,
    fun h => ?_, fun h => ?_⟩
  · refine exec_request_unchanged (k := .setTiming) tag h ?_
    simp only [ownerOf, ownSetTiming, timingRequest_none hm]
    rfl
  · have ht := setTiming_taken (tag := tag) h (timingRequest_some h4 h5) hl hr
    rw [clampTiming_eq] at ht
    refine ht.trans ?_
    simp only [timingBytes, Timing.mk.injEq, Prod.mk.injEq, true_and, modeCode_codedMode h4, modeCode_codedMode h5]
    rfl
  · obtain ⟨hbad, hput⟩ := exec_perSide (k := .setGlare)
      (f := fun d => { d with glare := { d.glare with settings := clampGlare (glareRequest p) } })
      (r := okOrClamped (clampGlare (glareRequest p) != glareRequest p))
      (payload := glareBytes (clampGlare (glareRequest p))) tag h
      (fun u hn => by simp only [ownerOf, ownSetGlare, hn]) fun u sides hs => by
        simp only [ownerOf, ownSetGlare, hs]
        rfl
    rw [okOrClamped_bne, clampGlare_eq] at hput
    exact ⟨hbad, hput⟩
  · obtain ⟨hbad, hput⟩ := exec_perSide (k := .setTone)
      (f := fun d => { d with tone := { d.tone with
        key := correctKey (uField p 1 2), table := correctTable (toneEntries p) } })
      (r := okOrClamped (correctKey (uField p 1 2) != uField p 1 2 || correctTable (toneEntries p) != toneEntries p))
      (payload := le 2 (correctKey (uField p 1 2)) ++ (correctTable (toneEntries p)).flatMap (le 2)) tag h
      (fun u hn => by simp only [ownerOf, ownSetTone, hn]) fun u sides hs => by
        simp only [ownerOf, ownSetTone, hs]
        rfl
    rw [okOrClamped_either, correctTable_toneEntries, correctKey, clampNat_eq (show 64 ≤ 1024 by decide)] at hput
    exact ⟨hbad, hput⟩
  · obtain ⟨hbad, hput⟩ := exec_perSide (k := .setExposureLimits)
      (f := fun d => { d with exposure := { d.exposure with limits := correctLimits (limitsRequest p) } })
      (r := okOrClamped (correctLimits (limitsRequest p) != limitsRequest p))
      (payload := limitsBytes (correctLimits (limitsRequest p))) tag h
      (fun u hn => by simp only [ownerOf, ownSetExposureLimits, hn]) fun u sides hs => by
        simp only [ownerOf, ownSetExposureLimits, hs]
        rfl
    rw [okOrClamped_bne, correctLimits_eq] at hput
    refine ⟨hbad, fun hc => (hput hc).trans ?_⟩
    simp only [limitsRequest, ExposureLimits.mk.injEq, Prod.mk.injEq]
    rfl

end Sys2Proof.Machine

/-! # Starting and stopping the sides named (O56)

A start or a stop of one side changes that side, what is sent out and what is handed on, and hangs on its own side
alone; `LocalChange` says so, and `foldl_named` gives the change made to each side that a code names. -/

namespace Sys2Proof.Machine

/-- An operation on one side: what the side becomes, and what is handed on besides, under a condition on that side. -/
structure LocalChange (ok : Side → State → Prop) (g : State → Side → State) (new : Side → State → SideState)
    (told : Side → State → List Transition) : Prop where
  eq : ∀ u x, ok x u → ∃ out, g u x = u.within x (new x u) out (u.handed ++ told x u)
  ok_right : ∀ u d out handed, ok .right u → ok .right { u with left := d, out := out, handed := handed }
  new_right : ∀ u d out handed, new .right { u with left := d, out := out, handed := handed } = new .right u
  told_right : ∀ u d out handed, told .right { u with left := d, out := out, handed := handed } = told .right u

theorem mem_namedList {n : Nat} {x : Side} : x ∈ namedList n ↔ names n x = true := by
  unfold namedList
  cases x <;> cases names n .left <;> cases names n .right <;> simp

theorem foldl_named {ok : Side → State → Prop} {g : State → Side → State} {new : Side → State → SideState}
    {told : Side → State → List Transition} (L : LocalChange ok g new told) (n : Nat) {s : State}
    (h : ∀ x, names n x = true → ok x s) :
    ∃ out, (namedList n).foldl g s = { s with
      left := if names n .left then new .left s else s.left,
      right := if names n .right then new .right s else s.right,
      out := out,
      handed := s.handed ++ ((if names n .left then told .left s else []) ++
        (if names n .right then told .right s else [])) } := by
  unfold namedList
  cases hl : names n .left with
  | false =>
    cases hr : names n .right with
    | false => exact ⟨s.out, by simp⟩
    | true =>
      obtain ⟨out, e⟩ := L.eq s .right (h _ hr)
      exact ⟨out, by simpa [State.within] using e⟩
  | true =>
    obtain ⟨out, e⟩ := L.eq s .left (h _ hl)
    replace e : g s .left = { s with left := new .left s, out := out, handed := s.handed ++ told .left s } := e
    cases hr : names n .right with
    | false => exact ⟨out, by simpa using e⟩
    | true =>
      obtain ⟨out', e'⟩ := L.eq (g s .left) .right (e ▸ L.ok_right _ _ _ _ (h _ hr))
      refine ⟨out', ?_⟩
      simp only [if_true, List.cons_append, List.nil_append, List.foldl_cons, List.foldl_nil]
      rw [e', e, L.new_right, L.told_right, ← List.append_assoc]
      rfl

/-! ## Starts -/

/-- A side after a start, its channel as STREAM_ON leaves it. -/
def newStart (x : Side) (s : State) : SideState :=
  startedSide x s (admittedChannel (.streamOn (s.syncMode x) s.timing.framePeriod) (s.side x).channel s.now)

theorem setSide_within (s : State) (x : Side) (d : SideState) : s.setSide x d = s.within x d s.out s.handed := by
  cases x <;> rfl

theorem localChange_start :
    LocalChange (fun x u => (u.side x).sup.view = .off) startSide newStart fun _ _ => [] where
  eq u x hv := by
    rw [startSide_eq hv, setSide_within, List.append_nil]
    obtain ⟨sent, e⟩ := within_submit u x { startBlocks x u.now u.timing u.signals (u.side x) with
      sup := { (u.side x).sup with
        view := startView (u.faults x),
        startTimer := some (after u.now ((u.side x).sup.startTimeout * 1000)) } } u.out u.handed
      (.streamOn (u.syncMode x) u.timing.framePeriod)
    exact ⟨_, e⟩
  ok_right _ _ _ _ h := h
  new_right _ _ _ _ := rfl
  told_right _ _ _ _ := rfl

/-! ## Stops -/

/-- The kinds that a stop removes (R149). -/
def stopKinds : List FaultKind :=
  allKinds.filter removedAtStop

theorem mem_stopKinds {k : FaultKind} : k ∈ stopKinds ↔ kindScope k = .side ∧ latched k = false := by
  unfold stopKinds
  rw [List.mem_filter]
  have all : k ∈ allKinds := by cases k <;> decide
  simp [all, removedAtStop]

/-- A side after STOP_VIEW named it: as it was where it was OFF. -/
def newStop (x : Side) (s : State) : SideState :=
  if (s.side x).sup.view = .off then s.side x
  else stoppedSide x s ((s.faults x).without stopKinds) (admittedChannel .streamOff (s.side x).channel s.now)

/-- What a stop of a side hands on. -/
def toldStop (x : Side) (s : State) : List Transition :=
  if (s.side x).sup.view = .off then [] else removals x .plain (s.faults x) stopKinds

theorem localChange_stop : LocalChange (fun _ _ => True) stopIfRunning newStop toldStop where
  eq u x _ := by
    unfold stopIfRunning newStop toldStop
    split
    · exact ⟨u.out, by rw [List.append_nil, ← setSide_within, State.setSide_self]⟩
    · rw [stopSide_eq]
      obtain ⟨sent, e⟩ := within_submit u x (stoppedBlocks x ((u.faults x).without stopKinds) (u.side x)) u.out
        (u.handed ++ removals x .plain (u.faults x) stopKinds) .streamOff
      refine ⟨u.out ++ sent, Eq.trans (congrArg _ ?_) e⟩
      cases x <;> rfl
  ok_right _ _ _ _ h := h
  new_right _ _ _ _ := rfl
  told_right _ _ _ _ := rfl

theorem mem_removals {x : Side} {f : FaultSet} {t : Transition} :
    t ∈ removals x .plain f stopKinds ↔ (t.kind ∈ stopKinds ∧ f.get t.kind ≠ .absent) ∧
      t.direction = .cleared ∧ t.scope = sideScope x ∧ t.flag = .plain := by
  unfold removals
  rw [List.mem_map]
  constructor
  · rintro ⟨k, hk, rfl⟩
    obtain ⟨hk, hs⟩ := List.mem_filter.1 hk
    exact ⟨⟨hk, by simpa [FaultSet.stands] using hs⟩, rfl, by rw [recordScope, (mem_stopKinds.1 hk).1], rfl⟩
  · rintro ⟨⟨hk, hs⟩, hd, hscope, hf⟩
    refine ⟨t.kind, List.mem_filter.2 ⟨hk, by simpa [FaultSet.stands] using hs⟩, ?_⟩
    rw [recordScope, (mem_stopKinds.1 hk).1, ← hd, ← hscope, ← hf]

/-- The transitions of a stop tell what it removes. -/
theorem told_removals (x : Side) (f : FaultSet) :
    Told x [] f (f.without stopKinds) (removals x .plain f stopKinds) stopKinds where
  nodup := (removedAtStop_nodup.filter _).map fun _ _ e => congrArg Transition.kind e
  scope t ht := (mem_removals.1 ht).2.2.1
  about t ht := (mem_removals.1 ht).1.1
  sided k hk := (mem_stopKinds.1 hk).1
  same k hk := by rw [FaultSet.without_get, if_neg hk]
  mem t := by
    rw [mem_removals, FaultSet.without_get]
    by_cases hk : t.kind ∈ stopKinds
    · rw [if_pos hk]
      cases h : f.get t.kind <;> simp [hk, memberChange, and_left_comm, eq_comm]
    · simp [hk, memberChange_self]

theorem told_nothing {x : Side} {f : FaultSet} {kinds : List FaultKind} (h : ∀ k ∈ kinds, kindScope k = .side) :
    Told x [] f f [] kinds where
  nodup := .nil
  scope := by simp
  about := by simp
  sided := h
  same _ _ := rfl
  mem := by simp [memberChange_self]

/-- The transitions of both sides tell the changes of both sets. -/
theorem handedOn_both {s t : State} {hl hr : List Transition} {kl kr : List FaultKind}
    (L : Told .left [] (s.faults .left) (t.faults .left) hl kl)
    (R : Told .right [] (s.faults .right) (t.faults .right) hr kr) (e : t.handed = hl ++ hr) :
    HandedOn .plain [] s t := by
  unfold HandedOn
  rw [e]
  refine ⟨List.nodup_append.2 ⟨L.nodup, R.nodup, fun u hu v hv huv => ?_⟩, fun u => ?_⟩
  · have := (L.scope u hu).symm.trans ((congrArg Transition.scope huv).trans (R.scope v hv))
    exact absurd this (by decide)
  · rw [List.mem_append, L.mem_recordScope, R.mem_recordScope]
    simp only [List.not_mem_nil, false_or]
    exact ⟨fun h => h.elim (fun h => ⟨.left, h⟩) fun h => ⟨.right, h⟩, fun ⟨x, h⟩ => by
      cases x with
      | left => exact .inl h
      | right => exact .inr h⟩

/-- What a stop of a side tells of its set. -/
theorem told_toldStop (x : Side) (s : State) :
    Told x [] (s.faults x) (newStop x s).sup.faults (toldStop x s) stopKinds := by
  unfold newStop toldStop
  split
  · exact told_nothing fun k hk => (mem_stopKinds.1 hk).1
  · exact told_removals x (s.faults x)

/-! ## The two requests -/

/-- A side after STOP_VIEW with a side code. -/
def stopNamed (n : Nat) (x : Side) (s : State) : SideState :=
  if names n x then newStop x s else s.side x

/-- What STOP_VIEW with a side code hands on for a side. -/
def toldNamed (n : Nat) (x : Side) (s : State) : List Transition :=
  if names n x then toldStop x s else []

theorem told_toldNamed (n : Nat) (x : Side) (s : State) :
    Told x [] (s.faults x) (stopNamed n x s).sup.faults (toldNamed n x s) stopKinds := by
  unfold stopNamed toldNamed
  split
  · exact told_toldStop x s
  · exact told_nothing fun k hk => (mem_stopKinds.1 hk).1

theorem newStop_view (x : Side) (s : State) : (newStop x s).sup.view = .off := by
  unfold newStop
  split
  · assumption
  · rfl

theorem settledSide_off {x : Side} {l : List Transition} {d : SideState} (h : d.sup.view = .off) :
    settledSide x l d = d := by
  have view : settledView x l d = d.sup.view := by
    unfold settledView nextView
    rw [h]
    exact ite_self _
  unfold settledSide
  rw [view]
  simp only [ne_eq, and_not_self, if_false]

/-- The end of the event finds a stopped side OFF and another untouched. -/
theorem settledSide_stopNamed {n : Nat} {x y : Side} {s : State} {l : List Transition} (hy : y ≠ x)
    (hl : ∀ t ∈ l, t ∈ toldNamed n x s ∨ t ∈ toldNamed n y s) :
    settledSide x l (stopNamed n x s) = stopNamed n x s := by
  unfold stopNamed
  cases hn : names n x with
  | true => exact settledSide_off (newStop_view x s)
  | false =>
    refine settledSide_untouched (untouched_of_scope (fun t ht => ?_) hy.symm) _
    refine (told_toldNamed n y s).scope t ((hl t ht).resolve_left fun h => ?_)
    simp [toldNamed, hn] at h

/-- The sides named stopped and the event settled. -/
theorem settle_stops (n : Nat) {s : State} (hs : s.handed = []) : ∃ t,
    settle ((namedList n).foldl stopIfRunning s) = t ∧ Reported s t ∧ t = { s with
      left := stopNamed n .left s, right := stopNamed n .right s, reports := t.reports, out := t.out,
      handed := toldNamed n .left s ++ toldNamed n .right s } := by
  obtain ⟨out, e⟩ := foldl_named localChange_stop n (s := s) fun _ _ => trivial
  rw [hs, List.nil_append] at e
  replace e : (namedList n).foldl stopIfRunning s = { s with
    left := stopNamed n .left s, right := stopNamed n .right s, out := out,
    handed := toldNamed n .left s ++ toldNamed n .right s } := e
  refine ⟨_, rfl, reported_settle (by rw [e]) (by rw [e]), ?_⟩
  rw [e, settle_eq]
  simp only
  rw [settledSide_stopNamed (y := .right) (by decide) fun t => List.mem_append.1,
    settledSide_stopNamed (y := .left) (by decide) fun t ht => (List.mem_append.1 ht).symm]

theorem any_running_iff {n : Nat} {s : State} : ((namedList n).any fun x => (s.side x).sup.view != .off) = true ↔
    ∃ x, names n x = true ∧ (s.side x).sup.view ≠ .off := by
  simp [List.any_eq_true, mem_namedList]

theorem stopNamed_running {n : Nat} {x : Side} {s : State} (hn : names n x = true) (hv : (s.side x).sup.view ≠ .off) :
    stopNamed n x s = stoppedSide x s ((s.faults x).without stopKinds)
      (((submit x .streamOff s).side x).channel) := by
  rw [stopNamed, if_pos hn, newStop, if_neg hv, admit_channel]

theorem stopNamed_other {n : Nat} {x : Side} {s : State} (h : names n x = false ∨ (s.side x).sup.view = .off) :
    stopNamed n x s = s.side x := by
  unfold stopNamed
  split
  · next hn => exact if_pos (h.resolve_left (by simp [hn]))
  · rfl

/-- STOP_VIEW with a valid side code. -/
theorem stopView_taken {tag : Byte} {p : List Byte} {s : State} (h : Answerable .stopView p s)
    (hc : uField p 0 1 ≤ 2) :
    ∃ t, exec (.stopView tag p) s = .next t ∧ Reported s t ∧ HandedOn .plain [] s t ∧
      t = { answered .stopView tag p.length .ok
          (le 1 (viewCode t.left.sup.view) ++ le 1 (viewCode t.right.sup.view)) s with
        left := t.left, right := t.right, reports := t.reports, out := t.out, handed := t.handed } ∧
      ∀ x, t.side x = stopNamed (uField p 0 1) x s := by
  obtain ⟨t, e, hrep, ht⟩ := settle_stops (uField p 0 1) (s := requestTaken p.length s) rfl
  have answer : ownerOf .stopView tag p (requestTaken p.length s) = answerWith t .ok (viewBytes t) := by
    simp only [ownerOf, ownStopView, namedSides_eq hc, e]
  have hleft : t.left = stopNamed (uField p 0 1) .left s := congrArg State.left ht
  have hright : t.right = stopNamed (uField p 0 1) .right s := congrArg State.right ht
  have handed : t.handed = toldNamed (uField p 0 1) .left s ++ toldNamed (uField p 0 1) .right s :=
    congrArg State.handed ht
  refine ⟨_, exec_request_of_answer (k := .stopView) tag h answer, hrep,
    handedOn_both (kl := stopKinds) (kr := stopKinds) ?_ ?_ handed, ?_, fun x => ?_⟩
  · change Told .left [] _ t.left.sup.faults _ _
    rw [hleft]
    exact told_toldNamed _ _ s
  · change Told .right [] _ t.right.sup.faults _ _
    rw [hright]
    exact told_toldNamed _ _ s
  · rw [ht]
    rfl
  · cases x with
    | left => exact hleft
    | right => exact hright

/-- START_VIEW with a valid side code whose sides are OFF. -/
theorem startView_taken {tag : Byte} {p : List Byte} {s : State} (h : Answerable .startView p s)
    (hc : uField p 0 1 ≤ 2) (hoff : ∀ x, names (uField p 0 1) x = true → (s.side x).sup.view = .off) :
    ∃ t, exec (.startView tag p) s = .next t ∧
      t = { answered .startView tag p.length .ok
          (le 1 (viewCode t.left.sup.view) ++ le 1 (viewCode t.right.sup.view)) s with
        left := t.left, right := t.right, out := t.out } ∧
      ∀ x, t.side x = if names (uField p 0 1) x then newStart x s else s.side x := by
  obtain ⟨out, e⟩ := foldl_named localChange_start (uField p 0 1) (s := requestTaken p.length s) hoff
  generalize ht : (namedList (uField p 0 1)).foldl startSide (requestTaken p.length s) = t at e
  have idle : ¬((namedList (uField p 0 1)).any fun x => (s.side x).sup.view != .off) = true := fun hany =>
    have ⟨x, hn, hv⟩ := any_running_iff.1 hany
    hv (hoff x hn)
  have answer : ownerOf .startView tag p (requestTaken p.length s) = answerWith t .ok (viewBytes t) := by
    simp only [ownerOf, ownStartView, namedSides_eq hc, ht]
    exact if_neg idle
  have none : (requestTaken p.length s).handed ++ ((if names (uField p 0 1) .left then [] else []) ++
      (if names (uField p 0 1) .right then [] else [])) = ([] : List Transition) := by
    rw [ite_self, ite_self]
    rfl
  rw [none] at e
  refine ⟨_, exec_request_of_answer (k := .startView) tag h answer, ?_, fun x => ?_⟩
  · rw [e]
    rfl
  · cases x with
    | left => exact congrArg State.left e
    | right => exact congrArg State.right e

/-- Settles O56. -/
theorem startAndStopViewActOnTheSidesNamed : Obligations.StartAndStopViewActOnTheSidesNamed := by
  intro tag p s
  refine ⟨fun h => ⟨fun hc => ?_, fun hc => ⟨fun hrun => ?_, fun hoff => ?_⟩⟩, fun h => ⟨fun hc => ?_, fun hc => ?_⟩⟩
  · refine exec_request_unchanged (k := .startView) tag h ?_
    simp only [ownerOf, ownStartView, namedSides_none hc]
    rfl
  · refine exec_request_unchanged (k := .startView) tag h ?_
    simp only [ownerOf, ownStartView, namedSides_eq hc]
    exact if_pos (any_running_iff.2 hrun)
  · obtain ⟨t, he, ht, hside⟩ := startView_taken (tag := tag) h hc hoff
    exact ⟨t, he, ht, fun x => by rw [hside, admit_channel]; rfl⟩
  · refine exec_request_unchanged (k := .stopView) tag h ?_
    simp only [ownerOf, ownStopView, namedSides_none hc]
    rfl
  · obtain ⟨t, he, hrep, hon, ht, hside⟩ := stopView_taken (tag := tag) h hc
    refine ⟨t, he, hrep, hon, ht, fun x => ⟨fun hx => (hside x).trans (stopNamed_other hx), fun hn hv => ?_⟩⟩
    have set : t.faults x = (s.faults x).without stopKinds := by
      rw [State.faults, hside, stopNamed_running hn hv]
      rfl
    refine ⟨by rw [hside, stopNamed_running hn hv, set], fun k => ?_⟩
    rw [set, FaultSet.without_get]
    simp only [mem_stopKinds]

end Sys2Proof.Machine

/-! # Lines (O31)

A line becomes codes, codes and the held even line become quads, and quads enter the tile records and the developed
rows. -/

namespace Sys2Proof.Machine

/-! ## Codes and quads -/

theorem lineCodes_getElem? {bytes : List Byte} {i : Nat} {lo hi : Byte} (hl : bytes[2 * i]? = some lo)
    (hh : bytes[2 * i + 1]? = some hi) : (lineCodes bytes)[i]? = some (lo.toNat + 256 * (hi.toNat % 16)) := by
  induction i generalizing bytes with
  | zero =>
    match bytes, hl, hh with
    | a :: b :: rest, hl, hh =>
      obtain rfl : a = lo := by simpa using hl
      obtain rfl : b = hi := by simpa using hh
      rfl
  | succ i ih =>
    match bytes, hl, hh with
    | a :: b :: rest, hl, hh =>
      rw [lineCodes, List.getElem?_cons_succ]
      exact ih hl hh

/-- A quad is formed of neighbouring samples of both lines (R34). -/
theorem quadsOf_getElem? {evens odds : List Nat} {i : Nat} {u : Quad} : (quadsOf evens odds)[i]? = some u ↔
    evens[2 * i]? = some u.r ∧ evens[2 * i + 1]? = some u.g1 ∧ odds[2 * i]? = some u.g2 ∧
      odds[2 * i + 1]? = some u.b := by
  induction i generalizing evens odds with
  | zero =>
    match evens, odds with
    | [], _ => simp [quadsOf]
    | [_], _ => simp [quadsOf]
    | _ :: _ :: _, [] => simp [quadsOf]
    | _ :: _ :: _, [_] => simp [quadsOf]
    | r :: g1 :: _, g2 :: b :: _ =>
      obtain ⟨r', g1', g2', b'⟩ := u
      simp [quadsOf]
  | succ i ih =>
    match evens, odds with
    | [], _ => simp [quadsOf]
    | [_], _ => simp [quadsOf, Nat.mul_add]
    | _ :: _ :: _, [] => simp [quadsOf]
    | _ :: _ :: _, [_] => simp [quadsOf, Nat.mul_add]
    | r :: g1 :: evens, g2 :: b :: odds =>
      rw [quadsOf, List.getElem?_cons_succ, ih]
      rfl

/-! ## Quads entering the tile records (R38) -/

/-- The luminances of a tile add up, raise its peak and are counted from the level on. -/
theorem foldl_addQuad (level : Nat) (t : TileRecord) (ys : List Nat) : ys.foldl (addQuad level) t =
    ⟨t.sum + ys.sum, ys.foldl max t.peak, t.hot + (ys.filter fun y => level ≤ y).length⟩ := by
  induction ys generalizing t with
  | nil => rfl
  | cons y ys ih =>
    rw [List.foldl_cons, ih, addQuad, List.sum_cons, List.foldl_cons, List.filter_cons, Nat.add_assoc]
    by_cases h : level ≤ y
    · simp [h, Nat.add_assoc, Nat.add_comm 1]
    · simp [h]

theorem addQuadRow_getElem? {level q i : Nat} {ys : List Nat} {tiles : List TileRecord} {t : TileRecord}
    (h : tiles[i]? = some t) : (addQuadRow level q ys tiles)[i]? = some
      (if i / 16 = q / 45 then
        ⟨t.sum + ((ys.drop (60 * (i % 16))).take 60).sum, ((ys.drop (60 * (i % 16))).take 60).foldl max t.peak,
          t.hot + (((ys.drop (60 * (i % 16))).take 60).filter fun y => level ≤ y).length⟩
      else t) := by
  rw [addQuadRow, List.getElem?_mapIdx, h, ← foldl_addQuad]
  rfl

/-- The odd line of a quad row whose even line is held. -/
theorem useLine_odd {c : Collecting} {evens : List Nat} (q : Nat) (odds : List Nat) (h : c.evenLine = some evens) :
    useLine (2 * q + 1) odds c = { c with
      tiles := addQuadRow c.glareLevel q ((quadsOf evens odds).map Quad.luminance) c.tiles, evenLine := none } := by
  have row : (2 * q + 1) / 2 = q := by omega
  unfold useLine
  rw [if_neg (by omega), h, row]

/-! ## Development into the ring (R86, R88) -/

theorem developLine_even {row : Nat} {line : List Nat} {d : SideState} (h : row % 2 = 0) :
    developLine row line d = d := by
  have odd : ¬row % 2 = 1 := by omega
  unfold developLine
  simp only [odd, if_false]
  repeat' split
  all_goals rfl

theorem developLine_nothing {row : Nat} {line : List Nat} {d : SideState}
    (h : d.tone.latched = none ∨ d.stats.collecting.bind Collecting.evenLine = none) : developLine row line d = d := by
  unfold developLine
  split
  · next l c hl hc =>
    have he : c.evenLine = none := by
      obtain h | h := h
      · exact absurd (hl.symm.trans h) (by simp)
      · simpa [hc] using h
    rw [he]
  · rfl

theorem developLine_odd {row : Nat} {line : List Nat} {d : SideState} {l : Latched} {evens : List Nat}
    (h : row % 2 = 1) (hl : d.tone.latched = some l) (he : d.stats.collecting.bind Collecting.evenLine = some evens) :
    developLine row line d = { d with ring :=
      ⟨writeRows (developRows l (row / 2) (quadsOf evens line)) d.ring.slot0,
        writeRows (developRows l (row / 2) (quadsOf evens line)) d.ring.slot1,
        writeRows (developRows l (row / 2) (quadsOf evens line)) d.ring.slot2⟩ } := by
  obtain ⟨c, hc, he⟩ := Option.bind_eq_some_iff.1 he
  unfold developLine
  rw [hl, hc]
  simp only [he, h, if_true]

/-! ## The event -/

/-- A side after a line of a frame in progress (R13). -/
def lineTaken (f : FrameInProgress) (bytes : List Byte) (d : SideState) : SideState :=
  if f.lineCount < 1080 ∧ bytes.length = 3840 then usedLine f (lineCodes bytes) d else unusedLine f d

theorem exec_lineArrival {x : Side} {bytes : List Byte} {f : FrameInProgress} {s : State} (hp : s.powered = true)
    (hv : (s.side x).sup.view ≠ .off) (hf : (s.side x).port.frame = some f) :
    exec (.lineArrival x bytes) s = .next (s.within x (lineTaken f bytes (s.side x)) [] []) := by
  refine (event_powered hp _).trans (congrArg _ ?_)
  unfold lineArrived
  rw [beginEvent_within s x]
  simp only [within_side, if_neg hv, hf, within_onSide]
  rfl

theorem oneSide_within (s : State) (x : Side) (d : SideState) (out : List Output) (handed : List Transition) :
    OneSide x s (s.within x d out handed) := by
  unfold OneSide
  rw [within_side]
  cases x <;> rfl

/-- Only the port, the collecting set and the rows of the ring change. -/
theorem lineTaken_eq (f : FrameInProgress) (bytes : List Byte) (d : SideState) : lineTaken f bytes d = { d with
    port := { d.port with frame := (lineTaken f bytes d).port.frame },
    stats := { d.stats with collecting := (lineTaken f bytes d).stats.collecting },
    ring := (lineTaken f bytes d).ring } := by
  unfold lineTaken
  split
  · rw [usedLine_eq]
  · rfl

theorem lineTaken_used {f : FrameInProgress} {bytes : List Byte} {d : SideState} (h : f.lineCount < 1080)
    (hb : bytes.length = 3840) : lineTaken f bytes d = { d with
      port := { d.port with frame := some { f with
        lineCount := f.lineCount + 1, signature := signLine f.lineCount (lineCodes bytes) f.signature } },
      stats := { d.stats with
        collecting := d.stats.collecting.map (useLine f.lineCount ((lineCodes bytes).map decompand)) },
      ring := (developLine f.lineCount ((lineCodes bytes).map decompand) d).ring } := by
  rw [lineTaken, if_pos ⟨h, hb⟩, usedLine_eq]

theorem lineTaken_unused {f : FrameInProgress} {bytes : List Byte} {d : SideState}
    (h : 1080 ≤ f.lineCount ∨ bytes.length ≠ 3840) : lineTaken f bytes d = unusedLine f d :=
  if_neg fun ⟨h1, h2⟩ => h.elim (by omega) (· h2)

/-- Settles O31: the event, the codes, the quads and the tile records. -/
theorem linesAreCountedUsedAndEnterTheirTiles : Obligations.LinesAreCountedUsedAndEnterTheirTiles := by
  refine ⟨fun x bytes f s hp hv hf => ?_, fun _ _ _ _ => lineCodes_getElem?, fun _ _ _ _ => quadsOf_getElem?,
    fun c evens odds q he _ => ?_⟩
  · refine ⟨_, exec_lineArrival hp hv hf, oneSide_within .., within_reports .., rfl, rfl, ?_, fun hc hb => ?_,
      fun h => ?_⟩
    all_goals rw [within_side]
    · exact lineTaken_eq ..
    · rw [lineTaken_used hc hb]
      refine ⟨rfl, rfl, fun hrow => ?_, fun hrow => ⟨fun h => ?_, fun l evens hl he => ?_⟩⟩
      · change (developLine f.lineCount _ (s.side x)).ring = _
        rw [developLine_even hrow]
      · change (developLine f.lineCount _ (s.side x)).ring = _
        rw [developLine_nothing h]
      · change (developLine f.lineCount _ (s.side x)).ring = _
        rw [developLine_odd hrow hl he]
        rfl
    · rw [lineTaken_unused h]
      exact ⟨rfl, rfl, rfl⟩
  · rw [useLine_odd q odds he]
    exact ⟨rfl, rfl, rfl, fun i t => addQuadRow_getElem?⟩

end Sys2Proof.Machine

/-! # Pixel values (O60): decompanding, the gain of a pixel, the display code -/

namespace Sys2Proof.Machine

/-! ## Decompanding (R18) -/

theorem decompand_segments (c : Nat) :
    (c ≤ 1023 → decompand c = c) ∧ (1024 ≤ c → c ≤ 2047 → decompand c = 1024 + (c - 1024) * 8) ∧
      (2048 ≤ c → c ≤ 3071 → decompand c = 9216 + (c - 2048) * 64) ∧
      (3072 ≤ c → c ≤ 4095 → decompand c = 74752 + (c - 3072) * 512) := by
  unfold decompand
  refine ⟨fun h => ?_, fun h1 h2 => ?_, fun h1 h2 => ?_, fun h1 h2 => ?_⟩
  · rw [if_pos (by omega)]
  · rw [if_neg (by omega), if_pos (by omega)]
  · rw [if_neg (by omega), if_neg (by omega), if_pos (by omega)]
  · rw [if_neg (by omega), if_neg (by omega), if_neg (by omega)]

theorem decompand_range {c : Nat} (h : c ≤ 4095) : decompand c ≤ 598528 ∧
    ¬(9209 ≤ decompand c ∧ decompand c ≤ 9215) ∧ ¬(74689 ≤ decompand c ∧ decompand c ≤ 74751) := by
  unfold decompand
  split
  · omega
  · split
    · omega
    · split <;> omega

theorem decompand_strictMono {c d : Nat} (h : c < d) : decompand c < decompand d := by
  unfold decompand
  repeat' split
  all_goals omega

/-! ## The gain of a pixel (R84, R85) -/

theorem gainColumns_spec (x : Nat) : (x ≤ 59 → gainColumns x = (0, 0, 0)) ∧
    (60 ≤ x → x ≤ 1859 → gainColumns x =
      ((x - 60) / 120, (x - 60) / 120 + 1, x - (60 + 120 * ((x - 60) / 120))) ∧
      x - (60 + 120 * ((x - 60) / 120)) ≤ 119) ∧
    (1860 ≤ x → x ≤ 1919 → gainColumns x = (15, 15, 0)) := by
  unfold gainColumns
  refine ⟨fun h => if_pos (by omega), fun h1 h2 => ?_, fun h1 h2 => ?_⟩
  · have weight : (x - 60) % 120 = x - (60 + 120 * ((x - 60) / 120)) := by omega
    rw [if_neg (by omega), if_pos (by omega), weight]
    exact ⟨rfl, by omega⟩
  · rw [if_neg (by omega), if_neg (by omega)]

theorem gainRows_spec (y : Nat) : (y ≤ 44 → gainRows y = (0, 0, 0)) ∧
    (45 ≤ y → y ≤ 1034 → gainRows y = ((y - 45) / 90, (y - 45) / 90 + 1, y - (45 + 90 * ((y - 45) / 90))) ∧
      y - (45 + 90 * ((y - 45) / 90)) ≤ 89) ∧
    (1035 ≤ y → y ≤ 1079 → gainRows y = (11, 11, 0)) := by
  unfold gainRows
  refine ⟨fun h => if_pos (by omega), fun h1 h2 => ?_, fun h1 h2 => ?_⟩
  · have weight : (y - 45) % 90 = y - (45 + 90 * ((y - 45) / 90)) := by omega
    rw [if_neg (by omega), if_pos (by omega), weight]
    exact ⟨rfl, by omega⟩
  · rw [if_neg (by omega), if_neg (by omega)]

theorem gainColumns_weight (x : Nat) : (gainColumns x).2.2 ≤ 120 := by
  unfold gainColumns
  split
  · exact Nat.zero_le _
  · split
    · exact (Nat.mod_lt _ (by decide)).le
    · exact Nat.zero_le _

theorem gainRows_weight (y : Nat) : (gainRows y).2.2 ≤ 90 := by
  unfold gainRows
  split
  · exact Nat.zero_le _
  · split
    · exact (Nat.mod_lt _ (by decide)).le
    · exact Nat.zero_le _

/-- The four tile gains of a pixel, weighted; the weights add up to 10,800. -/
def weightedGain (g00 g10 g01 g11 wx wy : Nat) : Nat :=
  g00 * (120 - wx) * (90 - wy) + g10 * wx * (90 - wy) + g01 * (120 - wx) * wy + g11 * wx * wy

theorem weightedGain_const (g : Nat) {wx wy : Nat} (hx : wx ≤ 120) (hy : wy ≤ 90) :
    weightedGain g g g g wx wy = g * 10800 := by
  unfold weightedGain
  obtain ⟨a, ha⟩ := Nat.exists_eq_add_of_le hx
  obtain ⟨b, hb⟩ := Nat.exists_eq_add_of_le hy
  have hax : 120 - wx = a := by omega
  have hby : 90 - wy = b := by omega
  have total : (wx + a) * (wy + b) = 10800 := by rw [← ha, ← hb]
  rw [hax, hby, ← total]
  ring

theorem weightedGain_mono {a b c d a' b' c' d' : Nat} (wx wy : Nat) (ha : a ≤ a') (hb : b ≤ b') (hc : c ≤ c')
    (hd : d ≤ d') : weightedGain a b c d wx wy ≤ weightedGain a' b' c' d' wx wy := by
  unfold weightedGain
  gcongr

theorem pixelGain_eq (gains : List Nat) (x y : Nat) : pixelGain gains x y =
    (weightedGain (tileGain gains (gainColumns x).1 (gainRows y).1) (tileGain gains (gainColumns x).2.1 (gainRows y).1)
      (tileGain gains (gainColumns x).1 (gainRows y).2.1) (tileGain gains (gainColumns x).2.1 (gainRows y).2.1)
      (gainColumns x).2.2 (gainRows y).2.2 + 5400) / 10800 := rfl

/-- Rounding half up by adding half the divisor. -/
theorem roundHalfUp_eq (n : Nat) : (n + 5400) / 10800 = (2 * n + 10800) / 21600 := by omega

theorem weightedGain_rounded {g00 g10 g01 g11 wx wy lo hi : Nat} (hx : wx ≤ 120) (hy : wy ≤ 90)
    (h : ∀ v ∈ [g00, g10, g01, g11], lo ≤ v ∧ v ≤ hi) :
    lo ≤ (weightedGain g00 g10 g01 g11 wx wy + 5400) / 10800 ∧
      (weightedGain g00 g10 g01 g11 wx wy + 5400) / 10800 ≤ hi := by
  obtain ⟨h00, h10, h01, h11⟩ : (lo ≤ g00 ∧ g00 ≤ hi) ∧ (lo ≤ g10 ∧ g10 ≤ hi) ∧ (lo ≤ g01 ∧ g01 ≤ hi) ∧
    (lo ≤ g11 ∧ g11 ≤ hi) := by simpa using h
  have low := weightedGain_mono wx wy h00.1 h10.1 h01.1 h11.1
  have high := weightedGain_mono wx wy h00.2 h10.2 h01.2 h11.2
  rw [weightedGain_const _ hx hy] at low high
  omega

theorem weightedGain_centre (g00 g10 g01 g11 : Nat) : (weightedGain g00 g10 g01 g11 0 0 + 5400) / 10800 = g00 := by
  unfold weightedGain
  omega

/-! ## The display code (R87) -/

section
variable {t : List Nat} (hlen : t.length = 65) (hsort : t.Pairwise (· ≤ ·))
include hlen hsort

theorem getD_mono {i j : Nat} (hij : i ≤ j) (hj : j ≤ 64) : t.getD i 0 ≤ t.getD j 0 := by
  have hi' : i < t.length := by omega
  have hj' : j < t.length := by omega
  rw [List.getD_eq_getElem _ _ hi', List.getD_eq_getElem _ _ hj']
  obtain rfl | h := Nat.eq_or_lt_of_le hij
  · exact le_rfl
  · exact List.pairwise_iff_getElem.1 hsort i j hi' hj' h

/-- A step of the table between its entries. -/
theorem displayCode_between {y : Nat} (hy : y ≤ 524287) :
    t.getD (y / 8192) 0 ≤ displayCode t y ∧ displayCode t y ≤ t.getD (y / 8192 + 1) 0 := by
  have step := getD_mono hlen hsort (Nat.le_add_right (y / 8192) 1) (by omega)
  have part : (t.getD (y / 8192 + 1) 0 - t.getD (y / 8192) 0) * (y % 8192) / 8192 ≤
      t.getD (y / 8192 + 1) 0 - t.getD (y / 8192) 0 :=
    Nat.div_le_of_le_mul (by
      rw [Nat.mul_comm]
      exact Nat.mul_le_mul_right _ (Nat.mod_lt _ (by decide)).le)
  unfold displayCode
  dsimp only
  omega

theorem displayCode_mono {y z : Nat} (hyz : y ≤ z) (hz : z ≤ 524287) : displayCode t y ≤ displayCode t z := by
  obtain h | h := Nat.eq_or_lt_of_le (Nat.div_le_div_right (c := 8192) hyz)
  · have rest : y % 8192 ≤ z % 8192 := by omega
    unfold displayCode
    rw [h]
    dsimp only
    gcongr
  · calc displayCode t y ≤ t.getD (y / 8192 + 1) 0 := (displayCode_between hlen hsort (by omega)).2
      _ ≤ t.getD (z / 8192) 0 := getD_mono hlen hsort h (by omega)
      _ ≤ displayCode t z := (displayCode_between hlen hsort hz).1

/-- The last entry is reached only where the last step is flat. -/
theorem displayCode_last (h : displayCode t 524287 = t.getD 64 0) : t.getD 63 0 = t.getD 64 0 := by
  have step := getD_mono hlen hsort (show 63 ≤ 64 by decide) le_rfl
  have value : displayCode t 524287 = t.getD 63 0 + (t.getD 64 0 - t.getD 63 0) * 8191 / 8192 := rfl
  omega

end

/-! ## Developed rows (R86, R88) -/

/-- Two entries for each element of a list, at twice its place. -/
theorem flatMap_pair_getElem? {α : Type} (f g : α → Nat → Nat) (l : List α) (k i : Nat) :
    ((l.zipIdx k).flatMap fun p => [f p.1 p.2, g p.1 p.2])[2 * i]? = l[i]?.map (fun a => f a (k + i)) ∧
      ((l.zipIdx k).flatMap fun p => [f p.1 p.2, g p.1 p.2])[2 * i + 1]? = l[i]?.map (fun a => g a (k + i)) := by
  induction l generalizing k i with
  | nil => simp
  | cons a l ih =>
    cases i with
    | zero => exact ⟨rfl, rfl⟩
    | succ i =>
      obtain ⟨h0, h1⟩ := ih (k + 1) i
      have place : k + 1 + i = k + (i + 1) := by omega
      rw [place] at h0 h1
      exact ⟨h0, h1⟩

theorem flatMap_pair_length {α : Type} (f g : α → Nat → Nat) (l : List α) (k : Nat) :
    ((l.zipIdx k).flatMap fun p => [f p.1 p.2, g p.1 p.2]).length = 2 * l.length := by
  induction l generalizing k with
  | nil => rfl
  | cons a l ih =>
    rw [List.zipIdx_cons, List.flatMap_cons, List.length_append, ih, List.length_cons]
    simp only [List.length_cons, List.length_nil]
    omega

theorem developUpper_length (l : Latched) (q : Nat) (quads : List Quad) :
    (developUpper l q quads).length = 2 * quads.length :=
  flatMap_pair_length (fun (u : Quad) i => developPixel l (2 * i) (2 * q) u.r u.luminance)
    (fun (u : Quad) i => developPixel l (2 * i + 1) (2 * q) u.g1 u.luminance) quads 0

theorem developLower_length (l : Latched) (q : Nat) (quads : List Quad) :
    (developLower l q quads).length = 2 * quads.length :=
  flatMap_pair_length (fun (u : Quad) i => developPixel l (2 * i) (2 * q + 1) u.g2 u.luminance)
    (fun (u : Quad) i => developPixel l (2 * i + 1) (2 * q + 1) u.b u.luminance) quads 0

theorem developUpper_getElem? {l : Latched} {q i : Nat} {quads : List Quad} {u : Quad} (h : quads[i]? = some u) :
    (developUpper l q quads)[2 * i]? = some (developPixel l (2 * i) (2 * q) u.r u.luminance) ∧
      (developUpper l q quads)[2 * i + 1]? = some (developPixel l (2 * i + 1) (2 * q) u.g1 u.luminance) := by
  obtain ⟨h0, h1⟩ := flatMap_pair_getElem? (fun u i => developPixel l (2 * i) (2 * q) u.r u.luminance)
    (fun u i => developPixel l (2 * i + 1) (2 * q) u.g1 u.luminance) quads 0 i
  rw [h, Nat.zero_add] at h0 h1
  exact ⟨h0, h1⟩

theorem developLower_getElem? {l : Latched} {q i : Nat} {quads : List Quad} {u : Quad} (h : quads[i]? = some u) :
    (developLower l q quads)[2 * i]? = some (developPixel l (2 * i) (2 * q + 1) u.g2 u.luminance) ∧
      (developLower l q quads)[2 * i + 1]? = some (developPixel l (2 * i + 1) (2 * q + 1) u.b u.luminance) := by
  obtain ⟨h0, h1⟩ := flatMap_pair_getElem? (fun u i => developPixel l (2 * i) (2 * q + 1) u.g2 u.luminance)
    (fun u i => developPixel l (2 * i + 1) (2 * q + 1) u.b u.luminance) quads 0 i
  rw [h, Nat.zero_add] at h0 h1
  exact ⟨h0, h1⟩

/-! ## Visible pixels (R123 to R125) -/

/-- A place scaled down into a window stays inside it. -/
theorem scaled_lt {u n size : Nat} (hu : u < n) (hs : 0 < size) : u * size / n < size :=
  Nat.div_lt_of_lt_mul (Nat.mul_lt_mul_of_pos_right hu hs)

theorem evenFloor_eq (n : Nat) : 2 * (n / 2) = n - n % 2 := by omega

theorem visiblePixel_blanked {u v : Nat} (hu : u ≤ 1279) (hv : v ≤ 799) : visiblePixel .blankedPattern u v =
    if v ≤ 15 ∨ 784 ≤ v ∨ u ≤ 15 ∨ 1264 ≤ u then (1023, 0, 0) else (0, 0, 0) := by
  have border : (v ≤ 15 ∨ (784 ≤ v ∧ v ≤ 799) ∨ u ≤ 15 ∨ (1264 ≤ u ∧ u ≤ 1279)) ↔
      (v ≤ 15 ∨ 784 ≤ v ∨ u ≤ 15 ∨ 1264 ≤ u) := by omega
  exact if_congr border rfl rfl

/-- The sensor pixel of a visible pixel, the window by the row. -/
theorem sensorPixel_eq (main wide : Window) (u v : Nat) : sensorPixel main wide u v =
    ((if v ≤ 519 then main else wide).x + u * (if v ≤ 519 then main else wide).w / 1280,
      if v ≤ 519 then (if v ≤ 519 then main else wide).y + v * (if v ≤ 519 then main else wide).h / 520
      else (if v ≤ 519 then main else wide).y + (v - 520) * (if v ≤ 519 then main else wide).h / 280) := by
  unfold sensorPixel
  by_cases h : v ≤ 519
  · simp only [h, if_true, show v < 520 by omega]
  · simp only [h, if_false, show ¬v < 520 by omega]

/-- A visible pixel of an image: the overlays, or the colour of the quad that holds its sensor pixel. -/
theorem visiblePixel_image (rows : List (Nat × List Nat)) (main wide : Window) (lines : List Nat) (degraded : Bool)
    {u : Nat} (v : Nat) (hu : u ≤ 1279) : visiblePixel (.image rows main wide lines degraded) u v =
      if degraded = true ∧ v ≤ 31 ∧ 1248 ≤ u then (1023, 0, 0)
      else if v ≤ 519 ∧ v ∈ lines then (1023, 768, 0)
      else quadColour rows (sensorPixel main wide u v).1 (sensorPixel main wide u v).2 := by
  have marker : (degraded = true ∧ v ≤ 31 ∧ 1248 ≤ u ∧ u ≤ 1279) ↔ (degraded = true ∧ v ≤ 31 ∧ 1248 ≤ u) := by
    simp [hu]
  have distance : (v < 520 ∧ v ∈ lines) ↔ (v ≤ 519 ∧ v ∈ lines) := and_congr_left' Nat.lt_succ_iff
  exact if_congr marker rfl (if_congr distance rfl rfl)

theorem sensorPixel_inside {w : Window} {u v n : Nat} (hu : u ≤ 1279) (hv : v < n) (hw : 0 < w.w) (hh : 0 < w.h) :
    (w.x ≤ w.x + u * w.w / 1280 ∧ w.x + u * w.w / 1280 < w.x + w.w) ∧
      w.y ≤ w.y + v * w.h / n ∧ w.y + v * w.h / n < w.y + w.h :=
  ⟨⟨Nat.le_add_right _ _, Nat.add_lt_add_left (scaled_lt (by omega) hw) _⟩, Nat.le_add_right _ _,
    Nat.add_lt_add_left (scaled_lt hv hh) _⟩

theorem pixelGain_spec (gains : List Nat) (x y : Nat) :
    pixelGain gains x y = (2 * weightedGain
        (tileGain gains (gainColumns x).1 (gainRows y).1) (tileGain gains (gainColumns x).2.1 (gainRows y).1)
        (tileGain gains (gainColumns x).1 (gainRows y).2.1) (tileGain gains (gainColumns x).2.1 (gainRows y).2.1)
        (gainColumns x).2.2 (gainRows y).2.2 + 10800) / 21600 ∧
      (∀ lo hi, (∀ v ∈ [tileGain gains (gainColumns x).1 (gainRows y).1,
          tileGain gains (gainColumns x).2.1 (gainRows y).1, tileGain gains (gainColumns x).1 (gainRows y).2.1,
          tileGain gains (gainColumns x).2.1 (gainRows y).2.1], lo ≤ v ∧ v ≤ hi) →
        lo ≤ pixelGain gains x y ∧ pixelGain gains x y ≤ hi) ∧
      ((gainColumns x).2.2 = 0 → (gainRows y).2.2 = 0 →
        pixelGain gains x y = tileGain gains (gainColumns x).1 (gainRows y).1) := by
  rw [pixelGain_eq]
  refine ⟨roundHalfUp_eq _, fun lo hi => weightedGain_rounded (gainColumns_weight x) (gainRows_weight y),
    fun hx hy => ?_⟩
  rw [hx, hy, weightedGain_centre]

theorem displayCode_spec {t : List Nat} {y : Nat} (hlen : t.length = 65) (hsort : t.Pairwise (· ≤ ·))
    (hy : y ≤ 524287) :
    y / 8192 ≤ 63 ∧ y - 8192 * (y / 8192) ≤ 8191 ∧
      displayCode t y = t.getD (y / 8192) 0 +
        (t.getD (y / 8192 + 1) 0 - t.getD (y / 8192) 0) * (y - 8192 * (y / 8192)) / 8192 ∧
      t.getD (y / 8192) 0 ≤ displayCode t y ∧ displayCode t y ≤ t.getD (y / 8192 + 1) 0 ∧
      t.getD 0 0 ≤ displayCode t y ∧ displayCode t y ≤ t.getD 64 0 ∧
      (∀ z, y ≤ z → z ≤ 524287 → displayCode t y ≤ displayCode t z) ∧
      (displayCode t 524287 = t.getD 64 0 → t.getD 63 0 = t.getD 64 0) := by
  have hi : y / 8192 ≤ 63 := by omega
  have rest : y % 8192 = y - 8192 * (y / 8192) := by omega
  obtain ⟨low, high⟩ := displayCode_between hlen hsort hy
  refine ⟨hi, by omega, ?_, low, high, (getD_mono hlen hsort (Nat.zero_le _) (by omega)).trans low,
    high.trans (getD_mono hlen hsort (by omega) le_rfl), fun z => displayCode_mono hlen hsort,
    displayCode_last hlen hsort⟩
  rw [← rest]
  rfl

/-- Settles O60: the tables of R18, R84, R85 and R87, the developed rows, and the visible pixels. -/
theorem pixelValuesDecompandDimAndDisplayAsStated : Obligations.PixelValuesDecompandDimAndDisplayAsStated := by
  refine ⟨⟨fun c => ?_, by decide, gainColumns_spec, gainRows_spec, fun gains x y _ _ => pixelGain_spec gains x y,
    fun t y hlen hsort hy => displayCode_spec hlen hsort hy⟩, fun l q quads => ?_, ?_⟩
  · obtain ⟨h1, h2, h3, h4⟩ := decompand_segments c
    exact ⟨h1, h2, h3, h4, decompand_range, fun d h _ => decompand_strictMono h⟩
  · refine ⟨developUpper l q quads, developLower l q quads, rfl, developUpper_length l q quads,
      developLower_length l q quads, fun i u h => ?_⟩
    obtain ⟨h0, h1⟩ := developUpper_getElem? (l := l) (q := q) h
    obtain ⟨h2, h3⟩ := developLower_getElem? (l := l) (q := q) h
    exact ⟨h0, h1, h2, h3⟩
  · intro rows main wide lines degraded u v hu hv
    refine ⟨fun hw hh => ?_, rfl, visiblePixel_blanked hu hv, ?_⟩
    · by_cases h : v ≤ 519
      · simp only [h, if_true] at hw hh ⊢
        obtain ⟨⟨h1, h2⟩, h3, h4⟩ := sensorPixel_inside hu (show v < 520 by omega) hw hh
        exact ⟨h1, h2, h3, h4⟩
      · simp only [h, if_false] at hw hh ⊢
        obtain ⟨⟨h1, h2⟩, h3, h4⟩ := sensorPixel_inside hu (show v - 520 < 280 by omega) hw hh
        exact ⟨h1, h2, h3, h4⟩
    · rw [visiblePixel_image _ _ _ _ _ _ hu, sensorPixel_eq]
      simp only [quadColour, evenFloor_eq]
      rfl

end Sys2Proof.Machine

/-! # The pending queue (O11, O39)

The laws of one channel: what an admission makes of its queue (R22, R23), and what a dispatch takes from it (R24). -/

namespace Sys2Proof.Machine

/-! ## Kinds of transactions -/

theorem sameKind_comm (t u : Transaction) : sameKind t u = sameKind u t := by
  cases t <;> cases u <;> rfl

/-- Transactions of one kind are of the same kind as the same others. -/
theorem sameKind_congr {t u : Transaction} (h : sameKind t u = true) (v : Transaction) :
    sameKind t v = sameKind u v := by
  cases t <;> cases u <;> cases h <;> cases v <;> rfl

theorem sameKind_streamOff (u : Transaction) : sameKind .streamOff u = (u == .streamOff) := by
  cases u <;> rfl

/-- Pending transactions of which no two are of one kind. -/
def DistinctKinds (q : List Transaction) : Prop := q.Pairwise fun t u => sameKind t u = false

/-! ## Replacing and joining (R22) -/

/-- A transaction of another kind is left where it is. -/
theorem replaceSame_of_new {t : Transaction} {q : List Transaction} (h : ∀ u ∈ q, sameKind t u = false) :
    replaceSame t q = q := by
  unfold replaceSame
  exact (List.map_congr_left fun u hu => if_neg (by simp [h u hu])).trans (List.map_id q)

/-- The one of its kind is replaced in its position. -/
theorem replaceSame_of_split {t old : Transaction} {a b : List Transaction} (hq : DistinctKinds (a ++ old :: b))
    (h : sameKind t old = true) : replaceSame t (a ++ old :: b) = a ++ t :: b := by
  obtain ⟨-, hb, hab⟩ := List.pairwise_append.1 hq
  have before : replaceSame t a = a := replaceSame_of_new fun u hu => by
    rw [sameKind_congr h, sameKind_comm]
    exact hab u hu old (.head _)
  have behind : replaceSame t b = b := replaceSame_of_new fun u hu => by
    rw [sameKind_congr h]
    exact List.rel_of_pairwise_cons hb hu
  unfold replaceSame at *
  rw [List.map_append, List.map_cons, before, behind, if_pos h]

theorem sameKind_replaced (t u v : Transaction) :
    sameKind (if sameKind t u then t else u) v = sameKind u v := by
  split
  · next h => exact sameKind_congr h v
  · rfl

theorem DistinctKinds.replaceSame {q : List Transaction} (h : DistinctKinds q) (t : Transaction) :
    DistinctKinds (replaceSame t q) := by
  refine List.pairwise_map.2 (List.Pairwise.imp (fun {u v} huv => ?_) h)
  rw [sameKind_replaced, sameKind_comm, sameKind_replaced, sameKind_comm]
  exact huv

theorem evict_sublist (q : List Transaction) : (evict q).Sublist q := by
  induction q with
  | nil => exact .slnil
  | cons t q ih =>
    unfold evict
    split
    · exact .cons t (.refl q)
    · exact ih.cons_cons t

theorem joinQueue_of_split {t old : Transaction} {a b : List Transaction} (hq : DistinctKinds (a ++ old :: b))
    (h : sameKind t old = true) : joinQueue t (a ++ old :: b) = a ++ t :: b := by
  unfold joinQueue
  rw [if_pos (by simp [h]), replaceSame_of_split hq h]

theorem joinQueue_of_new {t : Transaction} {q : List Transaction} (hl : q.length < 4)
    (h : ∀ u ∈ q, sameKind t u = false) : joinQueue t q = q ++ [t] := by
  unfold joinQueue
  rw [if_neg (by simpa using h), if_pos hl]

/-- A transaction behind others, none of its kind. -/
theorem DistinctKinds.concat {t : Transaction} {q : List Transaction} (h : DistinctKinds q)
    (ht : ∀ u ∈ q, sameKind t u = false) : DistinctKinds (q ++ [t]) :=
  List.pairwise_append.2 ⟨h, List.pairwise_singleton .., fun u hu v hv => by
    rw [List.mem_singleton.1 hv, sameKind_comm]
    exact ht u hu⟩

theorem DistinctKinds.joinQueue {q : List Transaction} (h : DistinctKinds q) (t : Transaction) :
    DistinctKinds (joinQueue t q) := by
  unfold Machine.joinQueue
  split
  · exact h.replaceSame t
  · next hn =>
    have new : ∀ u ∈ q, sameKind t u = false := by simpa using hn
    split
    · exact h.concat new
    · exact DistinctKinds.concat (List.Pairwise.sublist (evict_sublist q) h) fun u hu =>
        new u ((evict_sublist q).subset hu)

/-- A kind that stands in a queue after a transaction joined it is that of the transaction, or stood there before. -/
theorem any_joinQueue {t v : Transaction} {q : List Transaction} (h : (joinQueue t q).any (sameKind v) = true) :
    sameKind v t = true ∨ q.any (sameKind v) = true := by
  obtain ⟨u, hu, hv⟩ := List.any_eq_true.1 h
  have joined : u = t ∨ u ∈ q := by
    unfold joinQueue at hu
    split at hu
    · obtain ⟨w, hw, rfl⟩ := List.mem_map.1 hu
      split
      · exact .inl rfl
      · exact .inr hw
    · split at hu <;> rw [List.mem_append, List.mem_singleton] at hu
      · exact hu.symm
      · exact hu.symm.imp_right fun hw => (evict_sublist q).subset hw
  obtain rfl | hq := joined
  · exact .inl hv
  · exact .inr (List.any_eq_true.2 ⟨u, hq, hv⟩)

/-! ## Admission (R22, R23) -/

/-- A queue without its STREAM_OFF, as STREAM_ON finds it (R23). -/
theorem withoutStreamOff_eq (q : List Transaction) :
    (q.filter fun u => !sameKind .streamOff u) = q.filter fun u => u != .streamOff := by
  simp only [sameKind_streamOff]
  rfl

theorem DistinctKinds.admitQueue {q : List Transaction} (h : DistinctKinds q) (t : Transaction) :
    DistinctKinds (admitQueue t q) := by
  cases t with
  | streamOff => exact List.pairwise_singleton ..
  | streamOn m p => exact DistinctKinds.joinQueue (List.Pairwise.sublist List.filter_sublist h) _
  | setExposure e => exact h.joinQueue _
  | adjustLength n => exact h.joinQueue _

/-- What the law of the channels asks of a pending queue: no two of one kind, and not both stream kinds. -/
structure QueueSound (q : List Transaction) : Prop where
  distinct : DistinctKinds q
  exclusive : q.any (sameKind .streamOff) = true → q.any (sameKind (.streamOn .triggered 0)) = false

theorem QueueSound.nil : QueueSound [] := ⟨.nil, nofun⟩

theorem QueueSound.tail {t : Transaction} {q : List Transaction} (h : QueueSound (t :: q)) : QueueSound q where
  distinct := h.distinct.of_cons
  exclusive hq := by
    have both := h.exclusive (by rw [List.any_cons, hq, Bool.or_true])
    rw [List.any_cons, Bool.or_eq_false_iff] at both
    exact both.2

/-- A transaction of no stream kind leaves the stream kinds of the queue as they were. -/
theorem QueueSound.joinQueue {t : Transaction} {q : List Transaction} (h : QueueSound q)
    (hoff : sameKind .streamOff t = false) (hon : sameKind (.streamOn .triggered 0) t = false) :
    QueueSound (joinQueue t q) where
  distinct := h.distinct.joinQueue t
  exclusive hj := by
    have off : q.any (sameKind .streamOff) = true := (any_joinQueue hj).resolve_left (by simp [hoff])
    refine Bool.eq_false_iff.2 fun both => ?_
    have on := (any_joinQueue both).resolve_left (by simp [hon])
    rw [h.exclusive off] at on
    exact Bool.false_ne_true on

/-- An admission leaves the queue sound: STREAM_OFF stands alone, and STREAM_ON displaces it (R23). -/
theorem QueueSound.admitQueue {q : List Transaction} (h : QueueSound q) (t : Transaction) :
    QueueSound (admitQueue t q) := by
  cases t with
  | streamOff => exact ⟨List.pairwise_singleton .., fun _ => rfl⟩
  | streamOn m p =>
    refine ⟨h.distinct.admitQueue _, fun hoff => ?_⟩
    have left := (any_joinQueue hoff).resolve_left Bool.false_ne_true
    simp at left
  | setExposure e => exact h.joinQueue rfl rfl
  | adjustLength n => exact h.joinQueue rfl rfl

/-! ## Dispatch (R24) -/

theorem dispatched_busy {c : Channel} (h : c.inFlight.isSome = true) (now : PartTime) : dispatched c now = c := by
  unfold dispatched
  split
  · next hn _ => rw [hn] at h; exact absurd h Bool.false_ne_true
  · rfl

theorem dispatched_empty {c : Channel} (h : c.queue = []) (now : PartTime) : dispatched c now = c := by
  unfold dispatched
  split
  · next hq => rw [h] at hq; exact absurd hq (by simp)
  · rfl

theorem dispatched_next {c : Channel} {t : Transaction} {rest : List Transaction} (hf : c.inFlight = none)
    (hq : c.queue = t :: rest) (now : PartTime) : dispatched c now =
      ⟨rest, some ⟨t, c.attempt + 1, false⟩, some (after now 2000), c.attempt + 1⟩ := by
  simp only [dispatched, hf, hq, Channel.sendOldest]

theorem dispatchOutput_busy {c : Channel} (h : c.inFlight.isSome = true) (x : Side) : dispatchOutput x c = [] := by
  unfold dispatchOutput
  split
  · next hn _ => rw [hn] at h; exact absurd h Bool.false_ne_true
  · rfl

theorem dispatchOutput_empty {c : Channel} (h : c.queue = []) (x : Side) : dispatchOutput x c = [] := by
  unfold dispatchOutput
  split
  · next hq => rw [h] at hq; exact absurd hq (by simp)
  · rfl

theorem dispatchOutput_next {c : Channel} {t : Transaction} {rest : List Transaction} (hf : c.inFlight = none)
    (hq : c.queue = t :: rest) (x : Side) :
    dispatchOutput x c = [.transaction x (transactionBytes t (c.attempt + 1))] := by
  simp only [dispatchOutput, hf, hq]

/-- A dispatch where it has nothing to do. -/
theorem dispatch_nothing {x : Side} {s : State}
    (h : (s.side x).channel.inFlight.isSome = true ∨ (s.side x).channel.queue = []) : dispatch x s = s := by
  unfold dispatch
  split
  · next hf hq => rw [hf, hq] at h; exact absurd h (by simp)
  · rfl

/-- A dispatch of the oldest pending transaction. -/
theorem dispatch_next {x : Side} {s : State} {t : Transaction} {rest : List Transaction}
    (hf : (s.side x).channel.inFlight = none) (hq : (s.side x).channel.queue = t :: rest) :
    dispatch x s = { s.setSide x { s.side x with
        channel := ⟨rest, some ⟨t, (s.side x).channel.attempt + 1, false⟩, some (after s.now 2000),
          (s.side x).channel.attempt + 1⟩ } with
      out := s.out ++ [.transaction x (transactionBytes t ((s.side x).channel.attempt + 1))] } := by
  rw [dispatch_eq, dispatched_next hf hq, dispatchOutput_next hf hq]

/-- An admission to an empty queue leaves the transaction alone in it. -/
theorem admitQueue_nil (t : Transaction) : admitQueue t [] = [t] := by
  cases t <;> rfl

/-- A submission is a dispatch from the channel whose queue has admitted the transaction. -/
theorem submit_busy {x : Side} {t : Transaction} {s : State} (h : (s.side x).channel.inFlight.isSome = true) :
    submit x t s = s.setSide x { s.side x with
      channel := { (s.side x).channel with queue := admitQueue t (s.side x).channel.queue } } := by
  unfold submit
  rw [dispatch_nothing (.inl (by rw [State.side_onSide]; exact h))]
  rfl

theorem submit_next {x : Side} {t u : Transaction} {rest : List Transaction} {s : State}
    (hf : (s.side x).channel.inFlight = none) (hq : admitQueue t (s.side x).channel.queue = u :: rest) :
    submit x t s = { s.setSide x { s.side x with
        channel := ⟨rest, some ⟨u, (s.side x).channel.attempt + 1, false⟩, some (after s.now 2000),
          (s.side x).channel.attempt + 1⟩ } with
      out := s.out ++ [.transaction x (transactionBytes u ((s.side x).channel.attempt + 1))] } := by
  unfold submit
  rw [dispatch_next (by rw [State.side_onSide]; exact hf) (by rw [State.side_onSide]; exact hq)]
  cases x <;> rfl

/-! ## Admission and dispatch as stated (O39) -/

theorem transactionBytes_eq (t : Transaction) (n : Byte) : transactionBytes t n = match t with
    | .streamOn mode p => [1, n, if mode = .follow then 1 else 0] ++ le 2 p
    | .streamOff => [2, n]
    | .setExposure e => [3, n] ++ le 2 e
    | .adjustLength k => [4, n] ++ leInt 1 k := by
  cases t with
  | streamOn mode p => cases mode <;> rfl
  | streamOff => rfl
  | setExposure e => rfl
  | adjustLength k => rfl

theorem exec_dispatch {s : State} (hp : s.powered = true) (x : Side) :
    exec (.dispatch x) s = .next (dispatch x s.beginEvent) :=
  event_powered hp (dispatch x)

/-- Settles O39: the admission, the submission, the bytes, and the command. -/
theorem transactionsAreAdmittedAndDispatched : Obligations.TransactionsAreAdmittedAndDispatched := by
  refine ⟨fun q u hq => ⟨DistinctKinds.admitQueue hq u, ?_, ?_, ?_⟩, fun x u s => ⟨submit_busy, ?_, ?_⟩,
    transactionBytes_eq, fun x s hp => ⟨?_, ?_⟩⟩
  · rintro rfl
    rfl
  · rintro (⟨e, rfl⟩ | ⟨n, rfl⟩)
    all_goals exact ⟨fun a b old hs h => by subst hs; exact joinQueue_of_split hq h, joinQueue_of_new⟩
  · rintro m p rfl
    rw [← withoutStreamOff_eq]
    exact ⟨fun a b old hs h => (congrArg _ hs).trans (joinQueue_of_split
      (hs ▸ List.Pairwise.sublist List.filter_sublist hq) h), joinQueue_of_new⟩
  · exact fun hf hq => submit_next hf (by rw [hq, admitQueue_nil])
  · exact fun hf q rest hq => submit_next hf hq
  · intro q rest hf hq
    rw [exec_dispatch hp, dispatch_next (by rw [State.beginEvent_side]; exact hf)
      (by rw [State.beginEvent_side]; exact hq)]
    cases x <;> rfl
  · intro h
    rw [exec_dispatch hp, dispatch_nothing (by rw [State.beginEvent_side]; exact h)]
    rfl

end Sys2Proof.Machine

/-! # The transaction in flight (O40, O41)

An acknowledgement, a failure and the end of a transaction are events of one side that may also end QUIESCING (R181).
-/

namespace Sys2Proof.Machine

/-! ## Events of one side that may end QUIESCING -/

section
variable {s : State} {x : Side} {d : SideState} {out : List Output} {handed brief : List Transition}
  {kinds : List FaultKind}

theorem endQuiescing_side (u : State) (y : Side) : (endQuiescing u).side y = u.side y := by
  rw [endQuiescing_eq]
  cases y <;> rfl

theorem endQuiescing_faults (u : State) (y : Side) : (endQuiescing u).faults y = u.faults y := by
  rw [State.faults, endQuiescing_side]
  rfl

theorem endQuiescing_out (u : State) : (endQuiescing u).out = u.out := by rw [endQuiescing_eq]

theorem endQuiescing_handed (u : State) : (endQuiescing u).handed = u.handed := by rw [endQuiescing_eq]

theorem endQuiescing_reports (u : State) : (endQuiescing u).reports = u.reports := by rw [endQuiescing_eq]

/-- The end of QUIESCING, told of the states before the event and after it. -/
theorem endQuiescing_link {u : State} (hl : u.link = s.link) (hn : u.now = s.now) :
    (endQuiescing u).link = restedLink s (endQuiescing u) := by
  have rest : atRest (endQuiescing u) = atRest u := by rw [endQuiescing_eq]; rfl
  rw [restedLink, rest, endQuiescing_eq, hl, hn]

/-- The clauses common to the events of one side that may end QUIESCING. -/
theorem endQuiescing_within (T : Told x brief (s.faults x) d.sup.faults handed kinds) (hl : ViewLaw s)
    (hv : d.sup.view = (s.side x).sup.view) (hg : d.gain = (s.side x).gain) {t : State}
    (ht : t = endQuiescing (settle (s.within x d out handed))) :
    OneSideAndLink x s t ∧ Reported s t ∧ HandedOn .plain brief s t ∧ ViewFollows x s t ∧ MapFollows x s t ∧
      t.link = restedLink s t := by
  obtain ⟨hone, hrep, hon, hview, hmap⟩ := settle_within (out := out) T hl hv hg
  have hlink : (settle (s.within x d out handed)).link = s.link := by rw [hone]; cases x <;> rfl
  have hnow : (settle (s.within x d out handed)).now = s.now := by rw [hone]; cases x <;> rfl
  generalize settle (s.within x d out handed) = u at *
  subst ht
  refine ⟨?_, ?_, ?_, ?_, ?_, endQuiescing_link hlink hnow⟩
  · rw [OneSideAndLink, endQuiescing_side, endQuiescing_reports, endQuiescing_out, endQuiescing_handed]
    rw [OneSide] at hone
    rw [endQuiescing_eq, hone]
    cases x <;> rfl
  · rw [Reported, endQuiescing_eq]
    exact hrep
  · rw [HandedOn, endQuiescing_handed]
    simp only [endQuiescing_faults]
    exact hon
  · rw [ViewFollows, endQuiescing_side, endQuiescing_faults]
    exact hview
  · rw [MapFollows, endQuiescing_side]
    exact hmap

theorem within_dispatch : dispatch x (s.within x d out handed) =
    s.within x { d with channel := dispatched d.channel s.now } (out ++ dispatchOutput x d.channel) handed := by
  rw [dispatch_eq]
  cases x <;> rfl

end

/-! ## The end of a transaction (R25, R27) -/

/-- The channel after its transaction ended and its oldest pending one, if any, went out. -/
def Channel.nextUp (c : Channel) (now : PartTime) : Channel := dispatched c.ended now

theorem nextUp_empty {c : Channel} (h : c.queue = []) (x : Side) (now : PartTime) :
    dispatchOutput x c.ended = [] ∧ c.nextUp now = ⟨[], none, none, c.attempt⟩ := by
  refine ⟨dispatchOutput_empty (c := c.ended) h x, ?_⟩
  rw [Channel.nextUp, dispatched_empty (c := c.ended) h, Channel.ended, h]

theorem nextUp_next {c : Channel} {q : Transaction} {rest : List Transaction} (h : c.queue = q :: rest) (x : Side)
    (now : PartTime) : dispatchOutput x c.ended = [.transaction x (transactionBytes q (c.attempt + 1))] ∧
      c.nextUp now = ⟨rest, some ⟨q, c.attempt + 1, false⟩, some (after now 2000), c.attempt + 1⟩ :=
  ⟨dispatchOutput_next (c := c.ended) rfl h x, dispatched_next (c := c.ended) rfl h now⟩

/-- A side whose transaction ended. -/
def SideState.freed (now : PartTime) (d : SideState) : SideState :=
  { d with channel := d.channel.nextUp now }

/-- A side whose transaction was sent again (R26). -/
def SideState.retriedOnce (now : PartTime) (f : Flight) (d : SideState) : SideState :=
  { d with
    channel := d.channel.resent now f
    counters := { d.counters with cameraRetries := satInc d.counters.cameraRetries } }

section
variable (s : State) (x : Side) (d : SideState) (out : List Output) (handed : List Transition)

/-- An acknowledgement ends the transaction and tells CAMERA_CONTROL_FAIL gone (R25). -/
theorem within_acknowledged : acknowledged x (s.within x d out handed) =
    s.within x ((d.freed s.now).withFaults (goneIn d.sup.faults .cameraControlFail))
      (out ++ dispatchOutput x d.channel.ended)
      (handed ++ if d.sup.faults.get .cameraControlFail = .active
        then [⟨.cameraControlFail, .cleared, sideScope x, goneFlag .cameraControlFail⟩] else []) := by
  unfold acknowledged
  rw [within_onSide, within_gone, within_dispatch]
  rfl

/-- With nothing in flight a failure finds no transaction. -/
theorem within_failed_idle (h : d.channel.inFlight = none) : failed x (s.within x d out handed) =
    s.within x { d with channel := d.channel.ended } out handed := by
  unfold failed
  simp only [within_side, h, within_onSide]

/-- A first failure sends the transaction again (R26). -/
theorem within_failed_once {f : Flight} (hf : d.channel.inFlight = some f) (hr : f.retried = false) :
    failed x (s.within x d out handed) = s.within x (d.retriedOnce s.now f)
      (out ++ [.transaction x (transactionBytes f.transaction (d.channel.attempt + 1))]) handed := by
  unfold failed
  simp only [within_side, hf, hr, Bool.false_eq_true, if_false, within_now, within_onSide, within_count, within_emit]
  rfl

/-- A second failure ends the transaction and raises CAMERA_CONTROL_FAIL (R27). -/
theorem within_failed_twice {f : Flight} (hf : d.channel.inFlight = some f) (hr : f.retried = true) :
    failed x (s.within x d out handed) =
      s.within x ((d.freed s.now).withFaults (raisedIn d.sup.faults .cameraControlFail))
        (out ++ dispatchOutput x d.channel.ended)
        (handed ++ if d.sup.faults.get .cameraControlFail = .active then []
          else [⟨.cameraControlFail, .raised, sideScope x, .plain⟩]) := by
  unfold failed
  simp only [within_side, hf, hr, if_true, within_onSide, within_raise, within_dispatch]
  rfl

end

/-! ## The commands -/

theorem exec_ackArrival {x : Side} {f : Flight} {s : State} (hp : s.powered = true)
    (hf : (s.side x).channel.inFlight = some f) :
    exec (.ackArrival x 0 f.attempt) s = .next (endQuiescing (settle (acknowledged x s.beginEvent))) := by
  refine (event_powered hp _).trans ?_
  rw [if_pos ⟨rfl, current_iff.2 ⟨f, by rw [State.beginEvent_side]; exact hf, rfl⟩⟩]

/-- A current NACK and the timer's expiry are alike (R26). -/
theorem exec_failure {x : Side} {f : Flight} {s : State} {c : Instr} (hp : s.powered = true)
    (hf : (s.side x).channel.inFlight = some f)
    (hc : c = .nackArrival x 1 f.attempt ∨
      (c = .transactionTimerExpiry x ∧ due (s.side x).channel.timer s.now = true)) :
    exec c s = .next (endQuiescing (settle (failed x s.beginEvent))) := by
  obtain rfl | ⟨rfl, hd⟩ := hc
  · refine (event_powered hp _).trans ?_
    rw [if_pos ⟨rfl, current_iff.2 ⟨f, by rw [State.beginEvent_side]; exact hf, rfl⟩⟩]
  · refine (event_powered hp _).trans ?_
    rw [if_pos (by rw [State.beginEvent_side]; exact hd)]

/-- Settles O40. -/
theorem ackEndsTheTransactionInFlight : Obligations.AckEndsTheTransactionInFlight := by
  rintro x _ f s hp hf rfl hl
  refine ⟨_, exec_ackArrival hp hf, ?_⟩
  rw [beginEvent_within s x, within_acknowledged]
  have T := (Told.nil x (s.faults x)).gone (k := .cameraControlFail) (by simp) rfl
  obtain ⟨hone, hrep, hon, hview, hmap, hlink⟩ := endQuiescing_within
    (d := ((s.side x).freed s.now).withFaults (goneIn (s.faults x) .cameraControlFail))
    (out := dispatchOutput x (s.side x).channel.ended) T hl rfl rfl rfl
  refine ⟨hone, hrep, hon, hview, hmap, hlink, ?_⟩
  simp only [endQuiescing_side, endQuiescing_faults, endQuiescing_out, settle_within_side, settle_within_faults,
    settle_within_out]
  exact ⟨rfl, rfl, rfl, fun hq => nextUp_empty hq x s.now, fun q rest hq => nextUp_next hq x s.now⟩

/-- Settles O41, by the retry flag of the transaction in flight. -/
theorem failureIsRetriedOnceAndThenDropped : Obligations.FailureIsRetriedOnceAndThenDropped := by
  intro x f s c hp hf hc hl
  refine ⟨_, exec_failure hp hf hc, ?_⟩
  have T := Told.nil x (s.faults x)
  cases hr : f.retried with
  | false =>
    rw [beginEvent_within s x, within_failed_once s x _ _ _ hf hr]
    obtain ⟨hone, hrep, hon, hview, hmap, hlink⟩ := endQuiescing_within (d := (s.side x).retriedOnce s.now f)
      (out := [.transaction x (transactionBytes f.transaction ((s.side x).channel.attempt + 1))]) T hl rfl rfl rfl
    refine ⟨hone, hrep, hon, hview, hmap, hlink, ?_⟩
    simp only [endQuiescing_side, endQuiescing_faults, endQuiescing_out, settle_within_side, settle_within_faults,
      settle_within_out]
    exact ⟨rfl, rfl, fun _ => ⟨rfl, rfl, rfl, rfl⟩, nofun⟩
  | true =>
    rw [beginEvent_within s x, within_failed_twice s x _ _ _ hf hr]
    obtain ⟨hone, hrep, hon, hview, hmap, hlink⟩ := endQuiescing_within
      (d := ((s.side x).freed s.now).withFaults (raisedIn (s.faults x) .cameraControlFail))
      (out := dispatchOutput x (s.side x).channel.ended) (T.raise (k := .cameraControlFail) (by simp) rfl) hl rfl rfl rfl
    refine ⟨hone, hrep, hon, hview, hmap, hlink, ?_⟩
    simp only [endQuiescing_side, endQuiescing_faults, endQuiescing_out, settle_within_side, settle_within_faults,
      settle_within_out]
    exact ⟨rfl, rfl, nofun, fun _ => ⟨rfl, rfl, fun hq => nextUp_empty hq x s.now,
      fun q rest hq => nextUp_next hq x s.now⟩⟩

end Sys2Proof.Machine

/-! # The Phase Follower (O30)

The arithmetic of a phase error and of its correction, then what a frame start of a camera in FOLLOW mode makes of the
follower, the channel and PHASE_UNLOCKED. -/

namespace Sys2Proof.Machine

/-! ## Differences and phase errors (R1, R31) -/

theorem later_iff (a b : PartTime) : later a b = true ↔ 1 ≤ (a - b).toNat ∧ (a - b).toNat ≤ 2 ^ 47 - 1 := by
  unfold later duration
  rw [Bool.and_eq_true, decide_eq_true_iff, decide_eq_true_iff]

theorem signedDifference_later {c g : PartTime} (h : 1 ≤ (g - c).toNat ∧ (g - c).toNat ≤ 2 ^ 47 - 1) :
    signedDifference c g = -((g - c).toNat : Int) := if_pos ((later_iff g c).2 h)

theorem signedDifference_not_later {c g : PartTime} (h : ¬(1 ≤ (g - c).toNat ∧ (g - c).toNat ≤ 2 ^ 47 - 1)) :
    signedDifference c g = ((c - g).toNat : Int) := if_neg fun hl => h ((later_iff g c).1 hl)

/-- A phase error is the signed difference less whole periods, within half a period (R31). -/
theorem phaseError_spec (c g : PartTime) {p : Nat} (hp : 0 < p) :
    (∃ m : Int, signedDifference c g = phaseError c g p + m * p) ∧
      -(p : Int) < 2 * phaseError c g p ∧ 2 * phaseError c g p ≤ p := by
  have whole := Int.emod_add_mul_ediv (signedDifference c g) p
  have low := Int.emod_nonneg (signedDifference c g) (b := (p : Int)) (by omega)
  have high := Int.emod_lt_of_pos (signedDifference c g) (b := (p : Int)) (by omega)
  rw [mul_comm] at whole
  unfold phaseError
  dsimp only
  split
  · exact ⟨⟨_, whole.symm⟩, by omega, by omega⟩
  · refine ⟨⟨signedDifference c g / p + 1, ?_⟩, by omega, by omega⟩
    rw [add_mul, one_mul]
    omega

/-! ## Quotients rounded half away from zero (00_scope 3.3) -/

/-- The rounded quotient of two natural numbers is the nearest, the greater of two equally near. -/
theorem halfUp_spec (n : Nat) {d : Nat} (hd : 0 < d) :
    2 * n ≤ 2 * ((2 * n + d) / (2 * d) * d) + d ∧ 2 * ((2 * n + d) / (2 * d) * d) ≤ 2 * n + d ∧
      2 * n ≠ 2 * ((2 * n + d) / (2 * d) * d) + d := by
  have whole := Nat.div_add_mod (2 * n + d) (2 * d)
  have high := Nat.mod_lt (2 * n + d) (show 0 < 2 * d by omega)
  rw [mul_assoc, mul_comm d] at whole
  omega

theorem roundAway_of_nonneg {a : Int} (h : 0 ≤ a) (d : Nat) :
    roundAway a d * d = (((2 * a.natAbs + d) / (2 * d) * d : Nat) : Int) := by
  rw [roundAway, if_pos h, Nat.cast_mul]

theorem roundAway_of_neg {a : Int} (h : ¬0 ≤ a) (d : Nat) :
    roundAway a d * d = -(((2 * a.natAbs + d) / (2 * d) * d : Nat) : Int) := by
  rw [roundAway, if_neg h, Nat.cast_mul, neg_mul]

/-- A quotient is rounded to the nearest integer, and of two equally near to the one farther from zero. -/
theorem roundAway_spec (a : Int) {d : Nat} (hd : 0 < d) :
    2 * (a - roundAway a d * d).natAbs ≤ d ∧
      (2 * (a - roundAway a d * d).natAbs = d → a.natAbs < (roundAway a d * d).natAbs) := by
  obtain ⟨low, high, tie⟩ := halfUp_spec a.natAbs hd
  by_cases h : 0 ≤ a
  · rw [roundAway_of_nonneg h]
    omega
  · rw [roundAway_of_neg h]
    omega

/-! ## The correction (R32) -/

theorem lineCorrection_eq (e : Int) (period : Nat) :
    lineCorrection e period = max (-8) (min 8 (roundAway (e * 1125) period)) := clampInt_eq (by decide)

/-- Whether a frame start with a phase error admits a correction. -/
def corrects (timing : Timing) (e : Int) (f : Follower) : Bool :=
  !f.outstanding && !decide (e.natAbs ≤ timing.tolerance) && decide (lineCorrection e timing.framePeriod ≠ 0)

/-- A side whose follower corrected a phase error, or did not. -/
def SideState.corrected (now : PartTime) (timing : Timing) (e : Int) (d : SideState) : SideState :=
  { d with
    follower := { d.follower with outstanding := corrects timing e d.follower }
    channel :=
      if corrects timing e d.follower then
        admittedChannel (.adjustLength (-(lineCorrection e timing.framePeriod))) d.channel now
      else d.channel }

theorem phaseCorrect_eq (s : State) (x : Side) (d : SideState) (out : List Output) (handed : List Transition)
    (e : Int) : ∃ sent, phaseCorrect x e (s.within x d out handed) =
      s.within x (d.corrected s.now s.timing e) sent handed := by
  unfold phaseCorrect
  simp only [within_side, within_timing, within_onSide]
  split
  · next ho => exact ⟨out, by simp [SideState.corrected, corrects, ho]⟩
  · next ho =>
    have clear : d.follower = { d.follower with outstanding := false } := by
      rw [← Bool.eq_false_iff.2 ho]
    split
    · next ht =>
      have no : corrects s.timing e d.follower = false := by simp [corrects, ht]
      exact ⟨out, by rw [SideState.corrected, no, ← clear]; rfl⟩
    · next ht =>
      split
      · next hn =>
        have no : corrects s.timing e d.follower = false := by simp [corrects, hn]
        exact ⟨out, by rw [SideState.corrected, no, ← clear]; rfl⟩
      · next hn =>
        have yes : corrects s.timing e d.follower = true := by simp [corrects, ho, ht, hn]
        obtain ⟨sent, h⟩ := within_submit s x { d with follower := { d.follower with outstanding := true } } out handed
          (.adjustLength (-(lineCorrection e s.timing.framePeriod)))
        exact ⟨_, by rw [h, SideState.corrected, yes]; rfl⟩

/-! ## The runs (R33) -/

/-- The set after a frame start, by the runs that the follower then counts. -/
def countedFaults (inTolerance : Bool) (f : Follower) (faults : FaultSet) : FaultSet :=
  if inTolerance then (if f.inRun = 10 then goneIn faults .phaseUnlocked else faults)
  else if f.outRun = 60 then raisedIn faults .phaseUnlocked else faults

/-- A side whose follower counted a frame in tolerance or out of it. -/
def SideState.counted (inTolerance : Bool) (d : SideState) : SideState :=
  { d with
    follower := phaseRuns inTolerance d.follower
    sup := { d.sup with faults := countedFaults inTolerance (phaseRuns inTolerance d.follower) d.sup.faults } }

theorem phaseCount_eq (s : State) (x : Side) (d : SideState) (out : List Output) (handed : List Transition)
    (e : Int) : ∃ handed', phaseCount x e (s.within x d out handed) =
      s.within x (d.counted (decide (e.natAbs ≤ s.timing.tolerance))) out handed' := by
  unfold phaseCount
  simp only [within_timing, within_onSide, within_side, within_gone, within_raise]
  unfold SideState.counted countedFaults
  split
  · split <;> exact ⟨_, rfl⟩
  · split <;> exact ⟨_, rfl⟩

/-- A frame start in FOLLOW mode. -/
theorem measurePhase_follow {s : State} {x : Side} (hm : s.syncMode x = .follow) (d : SideState) (out : List Output)
    (handed : List Transition) : ∃ sent handed', measurePhase x (s.within x d out handed) =
      s.within x ((d.corrected s.now s.timing (phaseError s.now d.cam.next s.timing.framePeriod)).counted
        (decide ((phaseError s.now d.cam.next s.timing.framePeriod).natAbs ≤ s.timing.tolerance))) sent handed' := by
  unfold measurePhase
  simp only [within_syncMode, hm, within_now, within_side, within_timing]
  obtain ⟨sent, hc⟩ := phaseCorrect_eq s x d out handed (phaseError s.now d.cam.next s.timing.framePeriod)
  rw [hc]
  obtain ⟨handed', hr⟩ := phaseCount_eq s x _ sent handed (phaseError s.now d.cam.next s.timing.framePeriod)
  exact ⟨sent, handed', hr⟩

/-- PHASE_UNLOCKED after a frame start: raised at a run of 60 out of tolerance, told gone at 10 in tolerance. -/
theorem countedFaults_phaseUnlocked (inTolerance : Bool) (f : Follower) {faults : FaultSet}
    (h : faults.get .phaseUnlocked ≠ .held) :
    (countedFaults inTolerance (phaseRuns inTolerance f) faults).get .phaseUnlocked =
      if !inTolerance && decide (60 ≤ f.outRun + 1) then .active
      else if inTolerance && decide (10 ≤ f.inRun + 1) then .absent
      else faults.get .phaseUnlocked := by
  have gone : (goneIn faults .phaseUnlocked).get .phaseUnlocked = .absent := by
    rw [goneIn_get]
    cases hg : faults.get .phaseUnlocked with
    | absent => rfl
    | active => rfl
    | held => exact absurd hg h
  cases inTolerance with
  | false =>
    have reached : min 60 (f.outRun + 1) = 60 ↔ 60 ≤ f.outRun + 1 := by omega
    by_cases hr : 60 ≤ f.outRun + 1 <;> simp [countedFaults, phaseRuns, reached, hr, raisedIn_get]
  | true =>
    have reached : min 10 (f.inRun + 1) = 10 ↔ 10 ≤ f.inRun + 1 := by omega
    by_cases hr : 10 ≤ f.inRun + 1 <;> simp [countedFaults, phaseRuns, reached, hr, gone]

theorem corrected_counted_follower (now : PartTime) (timing : Timing) (e : Int) (inTolerance : Bool) (d : SideState) :
    ((d.corrected now timing e).counted inTolerance).follower =
      ⟨corrects timing e d.follower, if inTolerance then 0 else min 60 (d.follower.outRun + 1),
        if inTolerance then min 10 (d.follower.inRun + 1) else 0⟩ := by
  cases inTolerance <;> rfl

theorem corrected_counted_phaseUnlocked (now : PartTime) (timing : Timing) (e : Int) (inTolerance : Bool)
    {d : SideState} (h : d.sup.faults.get .phaseUnlocked ≠ .held) :
    ((d.corrected now timing e).counted inTolerance).sup.faults.get .phaseUnlocked =
      if !inTolerance && decide (60 ≤ d.follower.outRun + 1) then .active
      else if inTolerance && decide (10 ≤ d.follower.inRun + 1) then .absent
      else d.sup.faults.get .phaseUnlocked :=
  countedFaults_phaseUnlocked inTolerance (d.corrected now timing e).follower h

/-- The start of a frame tells LINK_LOST gone and leaves PHASE_UNLOCKED. -/
theorem frameBegun_phaseUnlocked (now : PartTime) (period : Nat) (number exposure length : Word16) (d : SideState) :
    (d.frameBegun now period number exposure length).sup.faults.get .phaseUnlocked =
      d.sup.faults.get .phaseUnlocked :=
  (goneIn_get ..).trans (if_neg fun h => by simp at h)

/-- Settles O30: the arithmetic, then the event. -/
theorem followerMeasuresCountsAndCorrects : Obligations.FollowerMeasuresCountsAndCorrects := by
  refine ⟨fun c g p => phaseError_spec c g, fun c g => ⟨signedDifference_later, signedDifference_not_later⟩,
    fun a d => roundAway_spec a, ?_⟩
  intro x number exposure length s hp hv hm _ hf
  refine ⟨_, exec_frameStartArrival hp hv (hf.2 x).2, ?_⟩
  obtain ⟨sent, handed, h⟩ := measurePhase_follow hm
    ((s.side x).frameBegun s.now s.timing.framePeriod number exposure length) [] (cutOffBrief x (s.side x) ++
      if (s.faults x).get .linkLost = .active then [⟨.linkLost, .cleared, sideScope x, goneFlag .linkLost⟩] else [])
  have begun := frameBegun_phaseUnlocked s.now s.timing.framePeriod number exposure length (s.side x)
  have notHeld : (s.faults x).get .phaseUnlocked ≠ .held := fun held => absurd ((hf.2 x).1 _ held).1 (by decide)
  rw [h]
  simp only [settle_within_side, settle_within_faults, ← lineCorrection_eq]
  refine ⟨corrected_counted_follower .., by rw [admit_channel]; rfl, ?_⟩
  rw [corrected_counted_phaseUnlocked _ _ _ _ (by rw [begun]; exact notHeld), begun]
  rfl

end Sys2Proof.Machine

/-! # The laws at reset (O4) -/

namespace Sys2Proof.Machine

theorem reset_side (x : Side) : State.reset.side x = resetSide := by
  cases x <;> rfl

theorem resetSide_faults (k : FaultKind) : resetSide.sup.faults.get k = .absent := by
  cases k <;> rfl

theorem soundLaw_reset : SoundLaw State.reset := soundLaw_volatileReset State.reset

theorem gainLaw_reset : GainLaw State.reset := by
  intro x
  rw [reset_side]
  refine ⟨List.length_replicate, fun g hg => ?_, fun _ => rfl, defaultGlare_inRange⟩
  rw [List.eq_of_mem_replicate hg]
  decide

theorem faultLaw_reset : FaultLaw State.reset := by
  have absent (x : Side) (k : FaultKind) : (State.reset.faults x).get k = .absent := by
    rw [State.faults, reset_side, resetSide_faults]
  refine ⟨fun k _ => (absent _ k).trans (absent _ k).symm, fun x => ⟨fun k hk => ?_, absent x _⟩⟩
  rw [absent] at hk
  exact absurd hk (by decide)

/-- Settles O4, law by law. -/
theorem lawsHoldAtReset : Obligations.LawsHoldAtReset := by
  obtain ⟨window, settings⟩ := (soundLaw_iff _).1 soundLaw_reset
  refine ⟨settings, fun x => ?_, gainLaw_reset, fun x => ?_, window, fun x => ?_, fun x => ?_, faultLaw_reset,
    fun x => ?_, ⟨by decide, by decide, nofun⟩, ⟨by decide, by decide, nofun, nofun, nofun⟩,
    partLaw_volatileReset State.reset, sampleLaw_volatileReset State.reset⟩
  all_goals rw [reset_side]
  · exact ⟨.nil, nofun, fun _ => rfl, rfl⟩
  · exact ⟨by decide, by decide, nofun, by decide, fun _ => rfl⟩
  · exact ⟨fun st h => by cases st with
      | free => exact absurd rfl h
      | _ => decide, by decide⟩
  · exact ⟨by decide, nofun⟩
  · trivial

end Sys2Proof.Machine

/-! # STANDBY (O24)

Each side is stopped, or given STREAM_OFF where it is OFF already, by the scheme of the requests that name sides. -/

namespace Sys2Proof.Machine

/-- A side after STANDBY: stopped where it ran, and with STREAM_OFF admitted in any case. -/
def newStandby (x : Side) (s : State) : SideState :=
  if (s.side x).sup.view = .off then
    { s.side x with channel := admittedChannel .streamOff (s.side x).channel s.now }
  else newStop x s

theorem localChange_standby : LocalChange (fun _ _ => True) standbySide newStandby toldStop where
  eq u x _ := by
    by_cases hv : (u.side x).sup.view = .off
    · obtain ⟨sent, e⟩ := within_submit u x (u.side x) u.out u.handed .streamOff
      refine ⟨u.out ++ sent, ?_⟩
      rw [standbySide, if_pos hv, newStandby, if_pos hv, toldStop, if_pos hv, List.append_nil, ← e, ← setSide_within,
        State.setSide_self]
    · have e : standbySide u x = stopIfRunning u x := by rw [standbySide, if_neg hv, stopIfRunning, if_neg hv]
      rw [e, newStandby, if_neg hv]
      exact localChange_stop.eq u x trivial
  ok_right _ _ _ _ h := h
  new_right _ _ _ _ := rfl
  told_right _ _ _ _ := rfl

theorem newStandby_view (x : Side) (s : State) : (newStandby x s).sup.view = .off := by
  unfold newStandby
  split
  · assumption
  · exact newStop_view x s

/-- What STANDBY hands on for a side tells what it removes from the set. -/
theorem told_standby (x : Side) (s : State) :
    Told x [] (s.faults x) (newStandby x s).sup.faults (toldStop x s) stopKinds := by
  have T := told_toldStop x s
  unfold newStandby
  split
  · next hv =>
    rw [newStop, if_pos hv] at T
    exact T
  · exact T

/-- Both sides stopped for STANDBY and the event settled. -/
theorem settle_standby {s : State} (hs : s.handed = []) : ∃ t,
    settle (setPart .quiescing (standbySide (standbySide s .left) .right)) = t ∧ Reported s t ∧ t = { s with
      left := newStandby .left s, right := newStandby .right s, reports := t.reports,
      link := { s.link with part := .quiescing }, out := t.out,
      handed := toldStop .left s ++ toldStop .right s } := by
  obtain ⟨out, e⟩ := foldl_named localChange_standby 2 (s := s) fun _ _ => trivial
  rw [hs, List.nil_append] at e
  replace e : standbySide (standbySide s .left) .right = { s with
    left := newStandby .left s, right := newStandby .right s, out := out,
    handed := toldStop .left s ++ toldStop .right s } := e
  refine ⟨_, rfl, reported_settle (by rw [e]; rfl) (by rw [e]; rfl), ?_⟩
  rw [e, settle_eq]
  simp only [setPart]
  rw [settledSide_off (newStandby_view .left s), settledSide_off (newStandby_view .right s)]

/-- STANDBY as answered. -/
theorem standby_taken {tag : Byte} {s : State} (h : Answerable .standby [] s) :
    ∃ t, exec (.standby tag []) s = .next t ∧ Reported s t ∧ HandedOn .plain [] s t ∧
      t = { s with
        left := t.left, right := t.right, reports := t.reports,
        link := { placedLink (countedLink s.link) (replyFrame (kindCode .standby) tag .ok []) with part := .quiescing },
        out := t.out, handed := t.handed } ∧
      ∀ x, t.side x = newStandby x s := by
  obtain ⟨t, e, hrep, ht⟩ := settle_standby (s := requestTaken 0 s) rfl
  have answer : ownerOf .standby tag [] (requestTaken 0 s) = answerWith t .ok [] := congrArg (answer · .ok) e
  have hleft : t.left = newStandby .left s := congrArg State.left ht
  have hright : t.right = newStandby .right s := congrArg State.right ht
  have handed : t.handed = toldStop .left s ++ toldStop .right s := congrArg State.handed ht
  refine ⟨_, exec_request_of_answer (k := .standby) tag h answer, hrep,
    handedOn_both (kl := stopKinds) (kr := stopKinds) ?_ ?_ handed, ?_, fun x => ?_⟩
  · change Told .left [] _ t.left.sup.faults _ _
    rw [hleft]
    exact told_standby _ s
  · change Told .right [] _ t.right.sup.faults _ _
    rw [hright]
    exact told_standby _ s
  · rw [ht]
    rfl
  · cases x with
    | left => exact hleft
    | right => exact hright

/-- Settles O24, by whether a side was OFF. -/
theorem standbyStopsBothSidesAndQuiesces : Obligations.StandbyStopsBothSidesAndQuiesces := by
  intro tag s h
  obtain ⟨t, he, hrep, hon, ht, hside⟩ := standby_taken (tag := tag) h
  refine ⟨t, he, hrep, hon, ht, fun x => ⟨fun hv => ?_, fun hv => ?_⟩⟩
  · rw [hside, newStandby, if_pos hv, admit_channel]
  · have stopped : t.side x = stoppedSide x s ((s.faults x).without stopKinds)
        (((submit x .streamOff s).side x).channel) := by
      rw [hside, newStandby, if_neg hv, newStop, if_neg hv, admit_channel]
    have set : t.faults x = (s.faults x).without stopKinds := by
      rw [State.faults, stopped]
      rfl
    refine ⟨by rw [stopped, set], fun k => ?_⟩
    rw [set, FaultSet.without_get]
    simp only [mem_stopKinds]

end Sys2Proof.Machine

/-! # Every step keeps the law of the channels (O11)

Few operations touch a channel: an admission, a dispatch, the end of a transaction and its retry. The others leave it as
it is, so each event keeps the law as the operations that it is made of do. -/

namespace Sys2Proof.Machine

/-! ## One channel -/

/-- The law of one channel: a sound queue, empty while nothing is in flight, and the timer running exactly while
something is. -/
structure ChannelSound (c : Channel) : Prop where
  queue : QueueSound c.queue
  idle : c.inFlight = none → c.queue = []
  timer : c.timer.isSome = c.inFlight.isSome

/-- A dispatch makes a channel sound that may have something to send. -/
theorem ChannelSound.dispatched {c : Channel} (hq : QueueSound c.queue) (ht : c.timer.isSome = c.inFlight.isSome)
    (now : PartTime) : ChannelSound (dispatched c now) := by
  cases hf : c.inFlight with
  | some f => rw [dispatched_busy (by rw [hf]; rfl)]; exact ⟨hq, fun hn => by simp [hf] at hn, ht⟩
  | none =>
    cases hc : c.queue with
    | nil => rw [dispatched_empty hc]; exact ⟨hq, fun _ => hc, ht⟩
    | cons t rest =>
      rw [dispatched_next hf hc]
      rw [hc] at hq
      exact ⟨hq.tail, nofun, rfl⟩

theorem ChannelSound.admitted {c : Channel} (h : ChannelSound c) (t : Transaction) (now : PartTime) :
    ChannelSound (admittedChannel t c now) :=
  .dispatched (c := { c with queue := admitQueue t c.queue }) (h.queue.admitQueue t) h.timer now

/-- The end of a transaction lets the next one go. -/
theorem ChannelSound.nextUp {c : Channel} (h : ChannelSound c) (now : PartTime) : ChannelSound (c.nextUp now) :=
  .dispatched (c := c.ended) h.queue rfl now

theorem ChannelSound.ended_of_idle {c : Channel} (h : ChannelSound c) (hf : c.inFlight = none) :
    ChannelSound c.ended :=
  ⟨h.queue, fun _ => h.idle hf, rfl⟩

theorem ChannelSound.resent {c : Channel} (h : ChannelSound c) (now : PartTime) (f : Flight) :
    ChannelSound (c.resent now f) :=
  ⟨h.queue, nofun, rfl⟩

/-! ## Both channels -/

/-- The law of the channels as a predicate of each side. -/
def soundChannel (_ : Side) (d : SideState) : Prop := ChannelSound d.channel

theorem blind_soundChannel : Blind soundChannel where
  faults _ h := h
  settled _ h := h
  counters _ h := h

theorem channelLaw_iff (s : State) : ChannelLaw s ↔ Sides soundChannel s :=
  forall_congr' fun _ => ⟨fun ⟨distinct, exclusive, idle, timer⟩ => ⟨⟨distinct, exclusive⟩, idle, timer⟩,
    fun h => ⟨h.queue.distinct, h.queue.exclusive, h.idle, h.timer⟩⟩

/-- Both channels are sound. -/
structure Channels (s : State) : Prop where
  sides : Sides soundChannel s

namespace Channels

variable {s : State} {x : Side}

/-! ### Operations -/

theorem congr (h : Channels s) {t : State} (hl : t.left = s.left := by rfl) (hr : t.right = s.right := by rfl) :
    Channels t := ⟨h.sides.congr hl hr⟩

theorem setSide (h : Channels s) {d : SideState} (hd : ChannelSound d.channel) : Channels (s.setSide x d) :=
  ⟨h.sides.setSide hd⟩

/-- A change of a side that leaves its channel. -/
theorem onSide (h : Channels s) {f : SideState → SideState}
    (hf : (f (s.side x)).channel = (s.side x).channel := by rfl) : Channels (s.onSide x f) :=
  ⟨h.sides.onSide fun hx => by unfold soundChannel; rw [hf]; exact hx⟩

theorem emit (h : Channels s) {o : Output} : Channels (s.emit o) := h.congr

theorem count (h : Channels s) {f : Counters → Counters} : Channels (s.count x f) := h.onSide

theorem raise (h : Channels s) {k : FaultKind} : Channels (raise x k s) := ⟨h.sides.raise blind_soundChannel⟩

theorem gone (h : Channels s) {k : FaultKind} : Channels (gone x k s) := ⟨h.sides.gone blind_soundChannel⟩

theorem raisePart (h : Channels s) {k : FaultKind} : Channels (raisePart k s) :=
  ⟨h.sides.raisePart blind_soundChannel⟩

theorem gonePart (h : Channels s) {k : FaultKind} : Channels (gonePart k s) := ⟨h.sides.gonePart blind_soundChannel⟩

theorem settle (h : Channels s) : Channels (settle s) := ⟨h.sides.settle blind_soundChannel⟩

theorem setView (h : Channels s) {v : ViewState} : Channels (setView x v s) := by
  rw [setView_eq]
  exact h.setSide (h.sides x)

theorem foldl {α : Type} {f : State → α → State} (hf : ∀ u a, Channels u → Channels (f u a)) (l : List α)
    (h : Channels s) : Channels (l.foldl f s) :=
  ⟨Sides.foldl (fun u a hu => (hf u a ⟨hu⟩).sides) l h.sides⟩

theorem dispatch (h : Channels s) : Channels (dispatch x s) := by
  rw [dispatch_eq]
  exact (h.setSide (ChannelSound.dispatched (h.sides x).queue (h.sides x).timer _)).congr

theorem submit (h : Channels s) {t : Transaction} : Channels (submit x t s) := by
  rw [admit_eq]
  exact (h.setSide ((h.sides x).admitted t s.now)).congr

/-! ### The transaction in flight -/

/-- What an event of one side leaves. -/
theorem within (h : Channels s) {d : SideState} {out : List Output} {handed : List Transition}
    (hd : ChannelSound d.channel) : Channels (s.within x d out handed) := (h.setSide hd).congr

theorem acknowledged (h : Channels s) : Channels (acknowledged x s) := by
  rw [← State.setSide_self s x, setSide_within, within_acknowledged]
  exact h.within ((h.sides x).nextUp s.now)

theorem failed (h : Channels s) : Channels (failed x s) := by
  have hx : ChannelSound (s.side x).channel := h.sides x
  rw [← State.setSide_self s x, setSide_within]
  cases hf : (s.side x).channel.inFlight with
  | none =>
    rw [within_failed_idle _ _ _ _ _ hf]
    exact h.within (hx.ended_of_idle hf)
  | some f =>
    cases hr : f.retried with
    | false =>
      rw [within_failed_once _ _ _ _ _ hf hr]
      exact h.within (hx.resent s.now f)
    | true =>
      rw [within_failed_twice _ _ _ _ _ hf hr]
      exact h.within (hx.nextUp s.now)

/-! ### Capture -/

theorem fire (h : Channels s) : Channels (fire x s) := h.emit.gone

theorem dropLate (h : Channels s) : Channels (dropLate x s) := h.count.raise

theorem releaseHold (h : Channels s) : Channels (releaseHold x s) := by
  have clear : Channels (clearHold x s) := h.onSide
  unfold Machine.releaseHold
  split
  · exact h
  · split
    · exact clear.fire
    · exact clear.dropLate

theorem camExpired (h : Channels s) : Channels (camExpired x s) := by
  have advanced : Channels (s.onSide x fun d => { d with cam := d.cam.advance }) := h.onSide
  unfold Machine.camExpired holdTrigger
  dsimp only
  repeat' split
  · exact advanced
  · exact advanced.dropLate.onSide
  · exact advanced.onSide
  · exact advanced.fire

theorem measurePhase (h : Channels s) : Channels (measurePhase x s) := by
  cases hm : s.syncMode x with
  | triggered =>
    unfold Machine.measurePhase
    rw [hm]
    exact h
  | follow =>
    obtain ⟨sent, handed, e⟩ := measurePhase_follow hm (s.side x) s.out s.handed
    rw [← setSide_within, State.setSide_self] at e
    rw [e]
    refine h.within ?_
    change ChannelSound (if _ then _ else _)
    split
    · exact (h.sides x).admitted _ s.now
    · exact h.sides x

theorem malformed (h : Channels s) : Channels (malformed x s) := h.count.raise.gone

theorem frameStart (h : Channels s) {n e l : Word16} : Channels (frameStart x n e l s) := by
  unfold Machine.frameStart
  dsimp only
  split
  · exact h
  · split
    · exact h.malformed.onSide.gone.measurePhase.settle
    · exact h.onSide.gone.measurePhase.settle

theorem lineArrived (h : Channels s) {bytes : List Byte} : Channels (lineArrived x bytes s) := by
  unfold Machine.lineArrived
  split
  · exact h
  · split
    · exact h
    · refine h.onSide ?_
      split
      · rw [usedLine_eq]
      · rfl

theorem frameEnd (h : Channels s) : Channels (frameEnd x s) := by
  have passed (f : FrameInProgress) : (passGood f (s.side x)).channel = (s.side x).channel := by
    rw [passGood, completeStatistics_eq]
  have frozen {u : State} (f : FrameInProgress) (p : Port) (hu : Channels u) : Channels (frozenCheck x f p u) :=
    ⟨hu.sides.frozenCheck blind_soundChannel⟩
  unfold Machine.frameEnd
  dsimp only
  split
  · exact h
  · split
    · exact h
    · next f _ =>
      split
      · exact (frozen f _ (h.onSide (passed f))).releaseHold.settle
      · exact h.onSide.malformed.releaseHold.settle

theorem linkLostExpired (h : Channels s) : Channels (linkLostExpired x s) := by
  unfold Machine.linkLostExpired
  dsimp only
  split
  · exact h.onSide.raise.onSide.releaseHold.settle
  · exact h.onSide.raise.settle

/-! ### Exposure, glare and display -/

theorem takeExposure (h : Channels s) : Channels (takeExposure x s) := by
  have night (c : Completed) (rest : List Completed) : Channels (s.onSide x fun d =>
      updateNight c.exposure { d with exposure := { d.exposure with waiting := rest } }) := by
    refine h.onSide ?_
    unfold updateNight
    dsimp only
    split <;> rfl
  unfold Machine.takeExposure meter
  repeat' split
  · exact h
  · exact night _ _
  · exact night _ _
  · exact (night _ _).onSide.submit

theorem takeGlare (h : Channels s) : Channels (takeGlare x s) := by
  unfold Machine.takeGlare
  split
  · exact h
  · refine h.onSide ?_
    dsimp only
    split <;> rfl

theorem vsyncExpired (h : Channels s) : Channels (vsyncExpired x s) := by
  have blocks : Channels (s.onSide x vsyncBlocks) := h.onSide
  have shown {u : State} {o : RingOutcome} (hu : Channels u) :
      Channels (Machine.settle (endStarting x o (repeatCheck x o u))) := by
    have hr : Channels (repeatCheck x o u) := ⟨hu.sides.repeatCheck blind_soundChannel⟩
    unfold endStarting
    split
    · exact hr.setView.settle
    · exact hr.settle
  unfold Machine.vsyncExpired showFrame
  dsimp only
  repeat' split
  · exact h.onSide
  · exact (shown blocks.onSide.gone).onSide
  · exact (shown blocks).onSide

theorem tagCheck (h : Channels s) {b : Bool} : Channels (tagCheck x b s) := by
  unfold Machine.tagCheck
  dsimp only
  repeat' split
  · exact h.onSide.gone
  · exact h.onSide
  · exact h.onSide.raise
  · exact h.onSide

theorem latencyCheck (h : Channels s) {c : Option PartTime} : Channels (latencyCheck x c s) := by
  unfold Machine.latencyCheck
  dsimp only
  repeat' split
  · exact h
  · exact h.onSide.raise
  · exact h.onSide
  · exact h.onSide.gone
  · exact h.onSide

theorem sideCheck (h : Channels s) {c : Byte} {n crc : Word16} : Channels (sideCheck x c n crc s) := by
  unfold Machine.sideCheck lookUpEcho
  dsimp only
  repeat' split
  · exact h.gone.count
  · exact h.gone
  · exact h.gone.onSide.tagCheck.latencyCheck
  · exact h.raise

theorem echoArrived (h : Channels s) {c : Byte} {n crc : Word16} : Channels (echoArrived x c n crc s) := by
  unfold Machine.echoArrived
  dsimp only
  split
  · exact h.onSide
  · exact h.onSide.onSide.gone.sideCheck.settle

theorem echoByte (h : Channels s) {b : Byte} : Channels (echoByte x b s) := by
  unfold Machine.echoByte
  dsimp only
  repeat' split
  · exact h
  · exact h.onSide
  · exact h.echoArrived

/-! ### Geometry, signals and views -/

theorem overrideSide (h : Channels s) {f : Geometry → Overrides} : Channels (overrideSide x f s) := by
  unfold Machine.overrideSide
  split
  · exact h
  · exact h.onSide

theorem endInspectSide (h : Channels s) : Channels (endInspectSide s x) := by
  unfold Machine.endInspectSide
  split
  · exact h.onSide
  · exact h

theorem freshnessExpired (h : Channels s) {sig : Signal} : Channels (freshnessExpired sig s) := by
  have overridden : Channels (Machine.overrideSide .right (fun g => staleOverrides sig g.overrides)
      (Machine.overrideSide .left (fun g => staleOverrides sig g.overrides)
        { s with signals := makeStale sig s.signals })) := h.congr.overrideSide.overrideSide
  unfold Machine.freshnessExpired
  dsimp only
  split
  · exact overridden.raisePart.settle
  · exact overridden.settle

theorem vehicleState (h : Channels s) (p : List Byte) : Channels (ownVehicleState p s).state := by
  obtain e | ⟨r, signals, f, g, e⟩ := ownVehicleState_cases p s
  · exact e.symm ▸ h
  · rw [e]
    have overridden : Channels (Machine.overrideSide .right g (Machine.overrideSide .left f
      { s with signals := signals })) := h.congr.overrideSide.overrideSide
    unfold clearSignalStale
    split
    · exact overridden.gonePart.settle
    · exact overridden.settle

theorem startSide (h : Channels s) : Channels (startSide s x) := h.onSide.setView.submit

theorem startIfOff (h : Channels s) : Channels (startIfOff s x) := by
  unfold Machine.startIfOff
  split
  · exact h.startSide
  · exact h

theorem stopSide (h : Channels s) : Channels (stopSide s x) := by
  rw [stopSide_eq]
  exact ((h.setSide (d := stoppedBlocks x _ (s.side x)) (h.sides x)).congr).submit

theorem stopIfRunning (h : Channels s) : Channels (stopIfRunning s x) := by
  unfold Machine.stopIfRunning
  split
  · exact h
  · exact h.stopSide

theorem standbySide (h : Channels s) : Channels (standbySide s x) := by
  unfold Machine.standbySide
  split
  · exact h.submit
  · exact h.stopSide

/-! ### The part states -/

theorem endQuiescing (h : Channels s) : Channels (endQuiescing s) := by
  rw [endQuiescing_eq]
  exact h.congr

theorem volatileReset (s : State) : Channels (volatileReset s) :=
  have empty : ChannelSound resetSide.channel := ⟨.nil, fun _ => rfl, rfl⟩
  ⟨Sides.both empty empty⟩

theorem deferredReset (h : Channels s) : Channels (deferredReset s) := by
  unfold Machine.deferredReset
  split
  · exact h
  · split
    · exact h
    · rw [makeReset, placeReply_eq]
      exact (volatileReset s).congr

theorem calibrated (h : Channels s) (bl br : Window) (ml mr : List (Option Nat)) (c : Word16) :
    Channels (s.calibrated bl br ml mr c) :=
  ⟨Sides.both (h.sides .left) (h.sides .right)⟩

theorem loaded (h : Channels s) (p : Profile) : Channels (s.loaded p) :=
  ⟨Sides.both (h.sides .left) (h.sides .right)⟩

theorem initCalibration (h : Channels s) : Channels (initCalibration s) := by
  obtain ⟨bl, br, ml, mr, c, u, -, -, hu, e⟩ := initCalibration_cases s
  rw [e]
  obtain rfl | rfl := hu
  · exact h.calibrated ..
  · exact h.raisePart.calibrated ..

theorem loadInitProfile (h : Channels s) : Channels (loadInitProfile s) := by
  rw [loadInitProfile_eq]
  exact h.loaded _

theorem setPart (h : Channels s) {p : PartState} : Channels (setPart p s) := h.congr

theorem initCompleted (h : Channels s) (wakeHigh : Bool) : Channels (initCompleted wakeHigh s) := by
  have woken : Channels (setWakeLine wakeHigh { s with link := { s.link with initTimer := none } }) := h.congr
  have active := woken.initCalibration.loadInitProfile.setPart (p := .active)
  unfold Machine.initCompleted startBoth streamOffBoth
  dsimp only
  split
  · exact active.startSide.startSide.settle
  · exact active.submit.submit.settle

theorem wakeExpired (h : Channels s) : Channels (wakeExpired s) := by
  unfold Machine.wakeExpired startBoth
  dsimp only
  split
  · exact h.congr.startSide.startSide
  · exact h.congr

theorem wakeLineRises (h : Channels s) : Channels (wakeLineRises s) := by
  have level : Channels (setWakeLine true s) := h.congr
  unfold Machine.wakeLineRises wakeEdge
  dsimp only
  repeat' split
  · exact level
  · exact level
  · exact level.startIfOff.startIfOff
  · exact level.congr
  · exact level.congr
  · exact level.congr

/-! ### The requests -/

theorem restoreView (h : Channels s) (p : List Byte) : Channels (ownRestoreView p s).state := by
  have B := blind_soundChannel
  obtain e | ⟨selector, sides, e⟩ := ownRestoreView_cases p s
  · exact e.symm ▸ h
  · rw [e]
    have restored : Channels (sides.foldl (restoreSide selector) s) :=
      h.foldl (fun u _ hu => ⟨hu.sides.restoreSide B⟩) sides
    refine Channels.settle ?_
    obtain e | ⟨bl, br, ml, mr, c, u, -, -, hu, e⟩ :=
      rereadIfNamed_cases selector sides (sides.foldl (restoreSide selector) s)
    · exact e.symm ▸ restored
    · rw [e]
      obtain rfl | rfl := hu
      · exact restored.calibrated ..
      · exact Channels.calibrated ⟨((restored.sides.setFault B).setFault B).hand⟩ ..

theorem modify (h : Channels s) (shut : Bool) (w : StoreWork) : Channels (modify shut w s).state :=
  modify_keeps h h.congr (fun _ => h.congr) shut w

theorem applyProfile (h : Channels s) {p : Profile} : Channels (applyProfile p s) :=
  ⟨Sides.both (h.sides .left) (h.sides .right)⟩

theorem own (h : Channels s) (k : RequestKind) (tag : Byte) (p : List Byte) : Channels (ownerOf k tag p s).state := by
  cases k with
  | status => exact h
  | identify => exact h
  | readGlare => exact (ownReadGlare_state p s).symm ▸ h
  | storeRead => exact (ownStoreRead_state p s).symm ▸ h
  | readHealth => exact h.congr
  | fetchReports => exact h.congr
  | vehicleState => exact h.vehicleState p
  | restoreView => exact h.restoreView p
  | storeLockFactory => exact h.modify _ _
  | standby => exact h.standbySide.standbySide.congr.settle
  | wake =>
    change Channels (wakeRequested s)
    unfold wakeRequested
    repeat' split
    all_goals exact h.congr
  | reset =>
    obtain e | e := ownReset_cases tag s
    · exact e.symm ▸ h.congr
    · exact e.symm ▸ volatileReset s
  | startView =>
    obtain e | ⟨sides, -, -, e⟩ := ownStartView_cases p s
    · exact e.symm ▸ h
    · exact e.symm ▸ h.foldl (fun _ _ => startSide) sides
  | stopView =>
    obtain e | ⟨sides, e⟩ := ownStopView_cases p s
    · exact e.symm ▸ h
    · exact e.symm ▸ (h.foldl (fun _ _ => stopIfRunning) sides).settle
  | setTiming =>
    obtain e | ⟨t, -, -, e⟩ := ownSetTiming_cases p s
    · exact e.symm ▸ h
    · exact e.symm ▸ h.congr
  | adjustView =>
    obtain e | ⟨_, _, _, _, _, -, e⟩ := ownAdjustView_cases p s
    · exact e.symm ▸ h
    · exact e.symm ▸ h.onSide
  | inspect =>
    obtain e | ⟨_, _, _, -, e⟩ := ownInspect_cases p s
    · exact e.symm ▸ h
    · exact e.symm ▸ h.onSide
  | endInspect =>
    obtain e | ⟨sides, e⟩ := ownEndInspect_cases p s
    · exact e.symm ▸ h
    · exact e.symm ▸ h.foldl (fun _ _ => endInspectSide) sides
  | setGlare =>
    obtain e | ⟨g, sides, e⟩ := ownSetGlare_cases p s
    · exact e.symm ▸ h
    · exact e.symm ▸ h.foldl (fun _ _ hu => hu.onSide) sides
  | setTone =>
    obtain e | ⟨key, sides, e⟩ := ownSetTone_cases p s
    · exact e.symm ▸ h
    · exact e.symm ▸ h.foldl (fun _ _ hu => hu.onSide) sides
  | setExposureLimits =>
    obtain e | ⟨l, sides, e⟩ := ownSetExposureLimits_cases p s
    · exact e.symm ▸ h
    · exact e.symm ▸ h.foldl (fun _ _ hu => hu.onSide) sides
  | readCounters =>
    obtain e | ⟨sides, e⟩ := ownReadCounters_cases p s
    · exact e.symm ▸ h
    · exact e.symm ▸ h.foldl (fun _ _ hu => hu.onSide) sides
  | storeUnlock =>
    obtain e | e := ownStoreUnlock_cases s
    · exact e.symm ▸ h
    · exact e.symm ▸ h.congr
  | storeProtect =>
    obtain e | ⟨b, e⟩ := ownStoreProtect_cases p s
    · exact e.symm ▸ h
    · exact e.symm ▸ h.congr
  | storeWrite =>
    obtain e | ⟨shut, w, e⟩ := ownStoreWrite_cases p s
    · exact e.symm ▸ h
    · exact e.symm ▸ h.modify shut w
  | storeErase =>
    obtain e | ⟨shut, w, e⟩ := ownStoreErase_cases p s
    · exact e.symm ▸ h
    · exact e.symm ▸ h.modify shut w
  | saveProfile =>
    obtain e | ⟨shut, w, e⟩ := ownSaveProfile_cases p s
    · exact e.symm ▸ h
    · exact e.symm ▸ h.modify shut w
  | loadProfile =>
    obtain e | ⟨bytes, e⟩ := ownLoadProfile_cases p s
    · exact e.symm ▸ h
    · exact e.symm ▸ h.applyProfile

end Channels

/-- Every command keeps both channels sound. -/
theorem channels_kept : Kept Channels where
  frame _ _ _ _ _ _ _ h := h.congr
  tick _ _ h := h.congr
  powerOn s := (Channels.volatileReset s).congr
  powerLoss _ h := h.congr
  initCompletion w _ _ _ h := h.initCompleted w
  vsync _ _ _ _ h := h.vsyncExpired
  camTrigger _ _ _ _ h := h.camExpired.settle
  frameStart _ _ _ _ _ _ h := h.frameStart
  line _ _ _ _ h := h.lineArrived
  frameEnd _ _ _ h := h.frameEnd
  linkLost _ _ _ _ h := h.linkLostExpired
  exposureTaken _ _ _ h := h.takeExposure
  glareTaken _ _ _ h := h.takeGlare
  dispatch _ _ _ h := h.dispatch
  acknowledged _ _ _ h := h.acknowledged.settle.endQuiescing
  failed _ _ _ h := h.failed.settle.endQuiescing
  echo _ _ _ _ _ _ h := h.echoArrived
  echoByte _ _ _ _ h := h.echoByte
  echoTimer _ _ _ _ h := h.onSide.raise.settle
  echoIdle _ _ _ h := h.onSide
  startTimer _ _ _ _ h := h.onSide.raise.settle
  freshness _ _ _ h := h.freshnessExpired
  inspect _ _ _ _ h := h.onSide
  wakeTimer _ _ _ h := h.wakeExpired
  wakeLine _ _ h := h.wakeLineRises
  sample _ _ _ _ _ h := ⟨h.sides.sampleArrived blind_soundChannel⟩
  savePhase _ _ _ _ h := h.congr
  storeDone _ _ _ _ h := h.congr.deferredReset.endQuiescing
  deferredReset _ _ h := h.deferredReset
  endQuiescing _ _ h := h.endQuiescing
  own k tag p _ _ _ h := h.own k tag p

/-- Settles O11: sound channels are kept by every command. -/
theorem stepsKeepTheChannelLaw : Obligations.StepsKeepTheChannelLaw := fun s t h e =>
  (channelLaw_iff t).2 (channels_kept.step ⟨(channelLaw_iff s).1 h⟩ e).sides

end Sys2Proof.Machine

/-! # The init completion (O22)

The calibration and profile 0 are read as two lists of bytes, which stay named throughout: no proof unfolds how the
1,280 cells are read. What they put in force on the sides is `initState`; then both sides are started, or both channels
given STREAM_OFF, each in the state it has after power-on. -/

namespace Sys2Proof.Machine

/-! ## What the bytes of the calibration and of profile 0 give -/

/-- The bounds of a side by the calibration bytes, the full active area where their CRC fails (R94, R199). -/
def initBounds (b : List Byte) (x : Side) : Window :=
  if calibrationGood b then calibratedBounds x b else fullArea

/-- The marker rows of a side by the calibration bytes, none where their CRC fails (R94, R199). -/
def initMarkers (b : List Byte) (x : Side) : List (Option Nat) :=
  if calibrationGood b then calibratedMarkers x b else [none, none, none]

/-- The part code by the calibration bytes, 0 where their CRC fails (R180). -/
def initPartCode (b : List Byte) : Word16 :=
  if calibrationGood b then BitVec.ofNat 16 (uField b 0 2) else 0

/-- A set after the read of the calibration (R154). -/
def initFaults (b : List Byte) (f : FaultSet) : FaultSet :=
  if calibrationGood b then f else raisedIn f .calibrationDamaged

/-- What the read of the calibration hands on (R154). -/
def initRaise (b : List Byte) (s : State) : List Transition :=
  if calibrationGood b then []
  else if (s.faults .left).get .calibrationDamaged = .active ∧ (s.faults .right).get .calibrationDamaged = .active
    then [] else [⟨.calibrationDamaged, .raised, .device, .plain⟩]

/-- The settings of one side in a profile. -/
def Profile.side (p : Profile) : Side → SideProfile
  | .left => p.left
  | .right => p.right

/-- The settings of a side that the bytes of profile 0 give (R96, R199). -/
def initSettings (b q : List Byte) (x : Side) : SideProfile :=
  if profileDamaged 0 q then defaultSide (initBounds b x) else correctSide (initBounds b x) ((readProfile q).side x)

/-- The thresholds that the bytes of profile 0 give (R165, R199). -/
def initThresholds (q : List Byte) : Thresholds :=
  if profileDamaged 0 q then defaultThresholds else correctThresholds (readProfile q).thresholds

/-- A side with its calibration and its settings in force. -/
def initSide (b q : List Byte) (x : Side) (d : SideState) : SideState :=
  loadedSide x (initBounds b x) (initMarkers b x) (initSettings b q x) (d.withFaults (initFaults b d.sup.faults))

/-- The part ACTIVE with its calibration and profile 0 in force. -/
def initState (wakeHigh : Bool) (b q : List Byte) (s : State) : State :=
  { s with
    left := initSide b q .left s.left
    right := initSide b q .right s.right
    health := { s.health with thresholds := initThresholds q }
    link := { s.link with part := .active, initTimer := none, wakeLine := wakeHigh, partCode := initPartCode b } }

theorem evenDown_eq (n : Nat) : evenDown n = n / 2 * 2 := by
  unfold evenDown
  omega

theorem storedBounds_left (b : List Byte) : storedBounds b 2 = calibratedBounds .left b := by
  simp only [storedBounds, areaWindow, evenWindow, evenDown_eq]
  rfl

theorem storedBounds_right (b : List Byte) : storedBounds b 16 = calibratedBounds .right b := by
  simp only [storedBounds, areaWindow, evenWindow, evenDown_eq]
  rfl

theorem storedMarker_eq (b : List Byte) (i : Nat) :
    storedMarker b i = if 1079 < uField b i 2 then none else some (uField b i 2) := by
  unfold storedMarker
  split
  · next h => rw [if_neg (Nat.not_lt.2 h)]
  · next h => rw [if_pos (Nat.lt_of_not_le h)]

theorem storedMarkers_left (b : List Byte) : storedMarkers b 10 = calibratedMarkers .left b := by
  simp only [storedMarkers, storedMarker_eq]
  rfl

theorem storedMarkers_right (b : List Byte) : storedMarkers b 24 = calibratedMarkers .right b := by
  simp only [storedMarkers, storedMarker_eq]
  rfl

/-! ## The read and the load as equations -/

/-- A side with the bounds, the marker rows and the set that the calibration bytes give. -/
def boundedSide (b : List Byte) (x : Side) (d : SideState) : SideState :=
  { d.withFaults (initFaults b d.sup.faults) with
    geometry := setBounds x (initBounds b x) (initMarkers b x) d.geometry }

/-- The read of the calibration. -/
theorem initCalibration_eq {s : State} {b : List Byte} (hb : calibrationCells s.store.cells = b) :
    initCalibration s = { s with
      left := boundedSide b .left s.left
      right := boundedSide b .right s.right
      link := { s.link with partCode := initPartCode b }
      handed := s.handed ++ initRaise b s } := by
  unfold initCalibration
  rw [hb]
  dsimp only
  split
  · next h =>
    unfold takeCalibration boundedSide initFaults initBounds initMarkers initPartCode initRaise
    simp only [storedBounds_left, storedBounds_right, storedMarkers_left, storedMarkers_right, h, if_true,
      List.append_nil]
    rfl
  · next h =>
    unfold refuseCalibration boundedSide initFaults initBounds initMarkers initPartCode initRaise
    simp only [raisePart_eq, h]
    rfl

/-- The settings that the load puts in force, for a part whose bounds are those of the calibration. -/
theorem initProfile_eq {s : State} {b q : List Byte} (hq : profileCells 0 s.store.cells = q)
    (hl : s.left.geometry.bounds = initBounds b .left) (hr : s.right.geometry.bounds = initBounds b .right) :
    initProfile s = ⟨initSettings b q .left, initSettings b q .right, initThresholds q⟩ := by
  unfold initProfile initSettings initThresholds
  rw [hq]
  dsimp only
  split
  · rw [defaultProfile, hl, hr]
  · rw [correctProfile, hl, hr]
    rfl

/-- The settings loaded on a side whose calibration is in force. -/
theorem loaded_boundedSide (b q : List Byte) (x : Side) (d : SideState) :
    settleSide (applySide x (initSettings b q x) (boundedSide b x d)) = initSide b q x d := rfl

/-- The part after the read, the load and the change to ACTIVE. -/
theorem initLoaded_eq (wakeHigh : Bool) {s : State} {b q : List Byte} (hb : calibrationCells s.store.cells = b)
    (hq : profileCells 0 s.store.cells = q) :
    setPart .active (loadInitProfile (initCalibration
      (setWakeLine wakeHigh { s with link := { s.link with initTimer := none } }))) =
      { initState wakeHigh b q s with handed := s.handed ++ initRaise b s } := by
  have read := initCalibration_eq (s := setWakeLine wakeHigh { s with link := { s.link with initTimer := none } }) hb
  generalize initCalibration (setWakeLine wakeHigh { s with link := { s.link with initTimer := none } }) = u at *
  have profile : initProfile u = ⟨initSettings b q .left, initSettings b q .right, initThresholds q⟩ :=
    initProfile_eq (by rw [read]; exact hq) (by rw [read]; rfl) (by rw [read]; rfl)
  rw [loadInitProfile_eq, profile, read]
  unfold State.loaded
  dsimp only [setPart, setWakeLine, applyProfile]
  rfl

/-! ## Both sides started, or both channels given STREAM_OFF -/

/-- A channel that has sent its first transaction since power-on. -/
def firstSent (t : Transaction) (now : PartTime) : Channel :=
  ⟨[], some ⟨t, 1, false⟩, some (after now 2000), 1⟩

/-- A transaction submitted to a channel as after power-on goes out at once. -/
theorem submit_first {x : Side} {t : Transaction} {s : State} (hc : (s.side x).channel = ⟨[], none, none, 0⟩) :
    submit x t s = s.within x { s.side x with channel := firstSent t s.now }
      (s.out ++ [.transaction x (transactionBytes t 1)]) s.handed := by
  rw [submit_next (u := t) (rest := []) (by rw [hc]) (by rw [hc, admitQueue_nil]), hc]
  cases x <;> rfl

theorem startSide_first {x : Side} {s : State} (hv : (s.side x).sup.view = .off)
    (hc : (s.side x).channel = ⟨[], none, none, 0⟩) :
    startSide s x = s.within x
      (startedSide x s (firstSent (.streamOn (s.syncMode x) s.timing.framePeriod) s.now))
      (s.out ++ [.transaction x (transactionBytes (.streamOn (s.syncMode x) s.timing.framePeriod) 1)]) s.handed := by
  rw [startSide_eq hv, submit_first (by rw [State.side_setSide]; exact hc)]
  cases x <;> rfl

/-- What the init completion sends on a side (R29, R177). -/
def initSends (wakeHigh : Bool) (s : State) (x : Side) : Transaction :=
  if wakeHigh then .streamOn (s.syncMode x) s.timing.framePeriod else .streamOff

/-- A side after the init completion: started, or OFF with STREAM_OFF sent. -/
def initEnd (wakeHigh : Bool) (s : State) (x : Side) : SideState :=
  if wakeHigh then startedSide x s (firstSent (initSends wakeHigh s x) s.now)
  else { s.side x with channel := firstSent (initSends wakeHigh s x) s.now }

theorem initEnd_eq (wakeHigh : Bool) {s : State} (hv : ∀ x, (s.side x).sup.view = .off)
    (hc : ∀ x, (s.side x).channel = ⟨[], none, none, 0⟩) :
    (if wakeHigh then startBoth s else streamOffBoth s) = { s with
      left := initEnd wakeHigh s .left
      right := initEnd wakeHigh s .right
      out := s.out ++ [.transaction .left (transactionBytes (initSends wakeHigh s .left) 1)] ++
        [.transaction .right (transactionBytes (initSends wakeHigh s .right) 1)] } := by
  have off (d : SideState) (out : List Output) : ((s.within .left d out s.handed).side .right).sup.view = .off :=
    hv .right
  have new (d : SideState) (out : List Output) :
      ((s.within .left d out s.handed).side .right).channel = ⟨[], none, none, 0⟩ := hc .right
  cases wakeHigh with
  | true =>
    rw [if_pos rfl, startBoth, startSide_first (hv .left) (hc .left), startSide_first (off _ _) (new _ _)]
    rfl
  | false =>
    rw [if_neg Bool.false_ne_true, streamOffBoth, submit_first (hc .left), submit_first (new _ _)]
    rfl

/-- A side just started has the view that the end of the event finds for it (R142, R144). -/
theorem nextView_startView (sup : Supervision) :
    nextView { sup with view := startView sup.faults } = startView sup.faults := by
  unfold nextView startView evaluated
  cases sup.faults.holdsClass .blank <;> rfl

theorem startView_ne_normal (f : FaultSet) : startView f ≠ .normal := by
  unfold startView
  split <;> decide

theorem settledSide_started (x : Side) (ts : List Transition) (s : State) (c : Channel) :
    settledSide x ts (startedSide x s c) = startedSide x s c := by
  have same : settledView x ts (startedSide x s c) = startView (s.faults x) := by
    unfold settledView
    split
    · exact nextView_startView { (startedSide x s c).sup with faults := s.faults x }
    · rfl
  unfold settledSide
  rw [same, if_neg fun h => startView_ne_normal (s.faults x) h.1]
  rfl

theorem settledSide_initEnd (x : Side) (ts : List Transition) (wakeHigh : Bool) {s : State}
    (hv : (s.side x).sup.view = .off) : settledSide x ts (initEnd wakeHigh s x) = initEnd wakeHigh s x := by
  unfold initEnd
  split
  · exact settledSide_started ..
  · exact settledSide_off hv

/-! ## Sound windows after the load (R93, R94) -/

theorem initBounds_valid (b : List Byte) (x : Side) : validWindow (initBounds b x) = true := by
  unfold initBounds
  split
  · exact (clampWindow_sound fullArea_valid _).1
  · exact fullArea_valid

/-- The settings of profile 0 lie in the bounds. -/
theorem initSettings_sound (b q : List Byte) (x : Side) : soundIn (initBounds b x) (initSettings b q x).main ∧
    soundIn (initBounds b x) (initSettings b q x).wide ∧ validWindow (initSettings b q x).curb = true ∧
    validWindow (initSettings b q x).axle = true ∧ validWindow (initSettings b q x).maneuver = true := by
  have hb := initBounds_valid b x
  have self : soundIn (initBounds b x) (initBounds b x) := ⟨hb, (inside_iff _ _).2 ⟨le_rfl, le_rfl, le_rfl, le_rfl⟩⟩
  unfold initSettings
  split
  · exact ⟨self, self, hb, hb, hb⟩
  · exact ⟨clampWindow_sound hb _, clampWindow_sound hb _, areaWindow_valid _, areaWindow_valid _, areaWindow_valid _⟩

theorem initSide_sound (b q : List Byte) (x : Side) (d : SideState) : geometrySound x (initSide b q x d).geometry := by
  obtain ⟨main, wide, curb, axle, maneuver⟩ := initSettings_sound b q x
  have hb := initBounds_valid b x
  exact geometrySound_shown (SoundParts.resolve (g := { (boundedSide b x d).geometry with
      baseMain := (initSettings b q x).main, baseWide := (initSettings b q x).wide, curb := (initSettings b q x).curb,
      axle := (initSettings b q x).axle, maneuver := (initSettings b q x).maneuver,
      panGain := (initSettings b q x).panGain })
    ⟨hb, curb, axle, maneuver, main, wide, clampWindow_sound hb _, clampWindow_sound hb _⟩ x)

/-- The end of the init completion keeps windows sound. -/
theorem initEnd_sound (wakeHigh : Bool) {s : State} {x : Side} (h : geometrySound x (s.side x).geometry) :
    geometrySound x (initEnd wakeHigh s x).geometry := by
  unfold initEnd
  split
  · change geometrySound x (startGeometry x s.signals (s.side x).geometry)
    exact geometrySound_shown (geometrySound_overrides h _ (s.side x).geometry.inspectTimer)
  · exact h

/-! ## What is handed on (R154) -/

/-- A raise changes one member, and that one where it was not ACTIVE. -/
theorem memberChange_raisedIn (f : FaultSet) (j k : FaultKind) : memberChange .plain (f.get j) ((raisedIn f k).get j) =
    if j = k ∧ f.get k ≠ .active then some (.raised, .plain) else none := by
  rw [raisedIn_get]
  by_cases hj : j = k
  · subst hj
    by_cases ha : f.get j = .active <;> simp [memberChange, ha]
  · simp [hj, memberChange_self]

/-- The raise of CALIBRATION_DAMAGED is told once for both sets. -/
theorem handedOn_initRaise {b : List Byte} {s t : State} (ht : t.handed = initRaise b s)
    (hf : ∀ x, t.faults x = initFaults b (s.faults x)) : HandedOn .plain [] s t := by
  unfold HandedOn
  rw [ht]
  simp only [hf, List.not_mem_nil, false_or]
  unfold initRaise initFaults
  by_cases good : calibrationGood b = true
  · simp [good, memberChange_self]
  · simp only [if_neg good, memberChange_raisedIn]
    have changed : (∃ x, (s.faults x).get .calibrationDamaged ≠ .active) ↔
        ¬((s.faults .left).get .calibrationDamaged = .active ∧
          (s.faults .right).get .calibrationDamaged = .active) := by
      rw [not_and_or]
      exact ⟨fun ⟨x, hx⟩ => by cases x with
        | left => exact .inl hx
        | right => exact .inr hx, fun h => h.elim (fun h => ⟨.left, h⟩) fun h => ⟨.right, h⟩⟩
    refine ⟨by split <;> simp, fun u => ?_⟩
    have told : (u ∈ if (s.faults .left).get .calibrationDamaged = .active ∧
        (s.faults .right).get .calibrationDamaged = .active then [] else
          [(⟨.calibrationDamaged, .raised, .device, .plain⟩ : Transition)]) ↔
        (∃ x, (s.faults x).get .calibrationDamaged ≠ .active) ∧ u = ⟨.calibrationDamaged, .raised, .device, .plain⟩ := by
      rw [changed]
      split <;> simp [*]
    rw [told]
    constructor
    · rintro ⟨⟨x, hx⟩, rfl⟩
      exact ⟨x, rfl, if_pos ⟨rfl, hx⟩⟩
    · rintro ⟨x, hs, hm⟩
      split at hm
      · next h =>
        obtain ⟨hk, hx⟩ := h
        obtain ⟨kind, direction, scope, flag⟩ := u
        obtain rfl : kind = .calibrationDamaged := hk
        obtain rfl : scope = .device := hs
        obtain ⟨rfl, rfl⟩ : Direction.raised = direction ∧ FlagClass.plain = flag := by simpa using hm
        exact ⟨⟨x, hx⟩, rfl⟩
      · exact absurd hm (by simp)

/-! ## The event -/

theorem exec_initCompletion {s : State} (wakeHigh : Bool) (hp : s.powered = true)
    (hd : due s.link.initTimer s.now = true) :
    exec (.initCompletion wakeHigh) s = .next (initCompleted wakeHigh s.beginEvent) :=
  (event_powered hp _).trans (congrArg _ (if_pos hd))

/-- The init completion before it settles. -/
theorem initCompleted_eq (wakeHigh : Bool) {s : State} {b q : List Byte} (hv : ∀ x, (s.side x).sup.view = .off)
    (hc : ∀ x, (s.side x).channel = ⟨[], none, none, 0⟩) (hb : calibrationCells s.store.cells = b)
    (hq : profileCells 0 s.store.cells = q) : initCompleted wakeHigh s = settle { initState wakeHigh b q s with
      left := initEnd wakeHigh (initState wakeHigh b q s) .left
      right := initEnd wakeHigh (initState wakeHigh b q s) .right
      out := s.out ++ [.transaction .left (transactionBytes (initSends wakeHigh s .left) 1)] ++
        [.transaction .right (transactionBytes (initSends wakeHigh s .right) 1)]
      handed := s.handed ++ initRaise b s } := by
  unfold initCompleted
  dsimp only
  rw [initLoaded_eq wakeHigh hb hq, initEnd_eq wakeHigh (fun x => ?_) fun x => ?_]
  · rfl
  · cases x with
    | left => exact hv .left
    | right => exact hv .right
  · cases x with
    | left => exact hc .left
    | right => exact hc .right

theorem initState_side (wakeHigh : Bool) (b q : List Byte) (s : State) (x : Side) :
    (initState wakeHigh b q s).side x = initSide b q x (s.side x) := by
  cases x <;> rfl

theorem initSends_initState (wakeHigh : Bool) (b q : List Byte) (s : State) (x : Side) :
    initSends wakeHigh (initState wakeHigh b q s) x = initSends wakeHigh s x := by
  cases x <;> rfl

/-- The end of a side, with what is sent read from the state before the event. -/
theorem initEnd_initState (wakeHigh : Bool) (b q : List Byte) (s : State) (x : Side) :
    initEnd wakeHigh (initState wakeHigh b q s) x =
      if wakeHigh then startedSide x (initState wakeHigh b q s) (firstSent (initSends wakeHigh s x) s.now)
      else { (initState wakeHigh b q s).side x with channel := firstSent (initSends wakeHigh s x) s.now } := by
  rw [initEnd, initSends_initState]
  rfl

/-- The sets after the init completion are those that the read of the calibration leaves. -/
theorem initEnd_faults (wakeHigh : Bool) (b q : List Byte) (s : State) (x : Side) :
    (initEnd wakeHigh (initState wakeHigh b q s) x).sup.faults = initFaults b (s.faults x) := by
  unfold initEnd
  cases wakeHigh <;> cases x <;> rfl

/-- A side of the state that the init completion settles. -/
theorem initSettled_side (wakeHigh : Bool) {b q : List Byte} {s : State} (hv : ∀ x, (s.side x).sup.view = .off)
    {u : State} (hl : u.left = initEnd wakeHigh (initState wakeHigh b q s) .left)
    (hr : u.right = initEnd wakeHigh (initState wakeHigh b q s) .right) (x : Side) :
    (settle u).side x = initEnd wakeHigh (initState wakeHigh b q s) x := by
  have side : u.side x = initEnd wakeHigh (initState wakeHigh b q s) x := by
    cases x with
    | left => exact hl
    | right => exact hr
  rw [settle_side, side]
  exact settledSide_initEnd x _ wakeHigh (by rw [initState_side]; exact hv x)

/-- The whole effect of the init completion, by the bytes of the calibration and of profile 0. -/
theorem initCompletion_taken (wakeHigh : Bool) {s : State} {b q : List Byte} (hp : s.powered = true)
    (hd : due s.link.initTimer s.now = true) (hv : ∀ x, (s.side x).sup.view = .off)
    (hc : ∀ x, (s.side x).channel = ⟨[], none, none, 0⟩) (hb : calibrationCells s.store.cells = b)
    (hq : profileCells 0 s.store.cells = q) : ∃ t, exec (.initCompletion wakeHigh) s = .next t ∧
      t = { initState wakeHigh b q s with
        left := t.left, right := t.right, reports := t.reports, handed := t.handed,
        out := [.transaction .left (transactionBytes (initSends wakeHigh s .left) 1),
          .transaction .right (transactionBytes (initSends wakeHigh s .right) 1)] } ∧
      (∀ x, t.side x = initEnd wakeHigh (initState wakeHigh b q s) x) ∧
      Reported s t ∧ HandedOn .plain [] s t ∧ WindowLaw t := by
  have ended := initCompleted_eq wakeHigh (s := s.beginEvent) (fun x => by cases x with
    | left => exact hv .left
    | right => exact hv .right) (fun x => by cases x with
    | left => exact hc .left
    | right => exact hc .right) hb hq
  have sides := initSettled_side wakeHigh (b := b) (q := q) hv
    (u := { initState wakeHigh b q s with
      left := initEnd wakeHigh (initState wakeHigh b q s) .left
      right := initEnd wakeHigh (initState wakeHigh b q s) .right
      out := [.transaction .left (transactionBytes (initSends wakeHigh s .left) 1),
          .transaction .right (transactionBytes (initSends wakeHigh s .right) 1)]
      handed := initRaise b s }) rfl rfl
  refine ⟨_, (exec_initCompletion wakeHigh hp hd).trans (congrArg _ ended), ?_, sides, reported_settle rfl rfl,
    handedOn_initRaise (settle_handed _) fun x => ?_, fun x => ?_⟩
  · rw [settle_eq]
    rfl
  · exact (congrArg (fun d : SideState => d.sup.faults) (sides x)).trans (initEnd_faults ..)
  · have sound : geometrySound x ((initState wakeHigh b q s).side x).geometry := by
      rw [initState_side]
      exact initSide_sound ..
    exact (congrArg SideState.geometry (sides x)) ▸ initEnd_sound wakeHigh sound

/-- The default settings of a side are those after power-on with every window at the bounds (R199). -/
theorem defaultSide_eq (w : Window) : defaultSide w =
    { sideSettings State.reset.left with main := w, wide := w, curb := w, axle := w, maneuver := w } := rfl

theorem profileCells_zero (cells : List Host.Cell) : profileCells 0 cells = readCells cells 1024 256 := by
  unfold profileCells
  exact congrArg (readCells cells · 256) (by decide)

/-- Settles O22: the part after INIT_COMPLETION, with the bytes read named, is the one the statement writes out. -/
theorem initCompletionLoadsAndStartsOrStops : Obligations.InitCompletionLoadsAndStartsOrStops := by
  unfold Obligations.InitCompletionLoadsAndStartsOrStops
  intro wakeHigh s hp hd _ hv hc
  refine ⟨?_, defaultSide_eq⟩
  have hb : calibrationCells s.store.cells = readCells s.store.cells 0 1024 := rfl
  have hq := profileCells_zero s.store.cells
  generalize readCells s.store.cells 0 1024 = b at *
  generalize readCells s.store.cells 1024 256 = q at *
  obtain ⟨t, he, ht, sides, rest⟩ := initCompletion_taken wakeHigh hp hd hv hc hb hq
  exact ⟨t, he, ht, fun x => (sides x).trans (initEnd_initState wakeHigh b q s x), rest⟩

end Sys2Proof.Machine

/-! # A completion taken by the Exposure Controller (O35)

A completion moves the night state first (R48, R49); the metered set, the exposure and its admission then follow from
the side so updated (R43 to R46). -/

namespace Sys2Proof.Machine

/-! ## Night state (R48, R49) -/

theorem nightThreshold_iff {e : Exposure} {frame : Nat} : nightThreshold e frame = true ↔
    (e.night = .day ∧ e.limits.eOn ≤ frame) ∨ (e.night = .night ∧ frame ≤ e.limits.eOff) := by
  unfold nightThreshold
  cases e.night <;> simp

theorem otherNight_eq_day_iff (n : NightState) : otherNight n = .day ↔ n = .night := by
  cases n <;> decide

section
variable {frame : Nat} {e : Exposure}

/-- The thirtieth threshold met in a row turns the night state and starts the run again. -/
theorem nightUpdate_turning (h : nightThreshold e frame = true ∧ e.nightRun + 1 = 30) :
    ((nightUpdate frame e).night = .day ↔ e.night = .night) ∧ (nightUpdate frame e).nightRun = 0 := by
  rw [nightUpdate, if_pos h.1, if_pos h.2]
  exact ⟨otherNight_eq_day_iff _, rfl⟩

theorem nightUpdate_counting (h : nightThreshold e frame = true) (h30 : e.nightRun + 1 ≠ 30) :
    nightUpdate frame e = { e with nightRun := e.nightRun + 1 } := by
  rw [nightUpdate, if_pos h, if_neg h30]

theorem nightUpdate_restarting (h : ¬nightThreshold e frame = true) :
    nightUpdate frame e = { e with nightRun := 0 } :=
  if_neg h

/-- Short of a turn the night state stays, and the run counts a threshold met and starts again otherwise. -/
theorem nightUpdate_staying (h : ¬(nightThreshold e frame = true ∧ e.nightRun + 1 = 30)) :
    (nightUpdate frame e).night = e.night ∧
      (nightThreshold e frame = true → (nightUpdate frame e).nightRun = e.nightRun + 1) ∧
      (¬nightThreshold e frame = true → (nightUpdate frame e).nightRun = 0) := by
  by_cases met : nightThreshold e frame = true
  · rw [nightUpdate_counting met fun h30 => h ⟨met, h30⟩]
    exact ⟨rfl, fun _ => rfl, fun hn => absurd met hn⟩
  · rw [nightUpdate_restarting met]
    exact ⟨rfl, fun hm => absurd hm met, fun _ => rfl⟩

/-- A night update moves nothing of the Exposure Controller but the night state and its run. -/
theorem nightUpdate_eq (frame : Nat) (e : Exposure) : nightUpdate frame e =
    { e with night := (nightUpdate frame e).night, nightRun := (nightUpdate frame e).nightRun } := by
  unfold nightUpdate
  repeat' split
  all_goals rfl

end

/-- Entry to DAY by a completion with this E_frame. -/
abbrev entersDay (frame : Nat) (e : Exposure) : Prop :=
  e.night = .night ∧ (nightUpdate frame e).night = .day

/-- A night update changes the Exposure Controller, and at an entry to DAY the Glare Tracker and the map. -/
theorem updateNight_eq (frame : Nat) (d : SideState) : updateNight frame d = { d with
    exposure := { d.exposure with
      night := (nightUpdate frame d.exposure).night, nightRun := (nightUpdate frame d.exposure).nightRun },
    glare := if entersDay frame d.exposure then emptyGlare d.glare else d.glare,
    gain := if entersDay frame d.exposure then publish unityGains d.gain else d.gain } := by
  rw [← nightUpdate_eq]
  unfold updateNight
  dsimp only
  split
  all_goals rfl

/-! ## Metering (R43 to R46) -/

/-- The table that a night update empties at an entry to DAY is not read in DAY, so the set can be read from the table
as it stood before. -/
theorem meteredTiles_updateNight (frame : Nat) (d : SideState) : meteredTiles (updateNight frame d) =
    (List.range 192).filter fun i =>
      (intersects i d.geometry.mainInForce || intersects i d.geometry.wideInForce) &&
        !((nightUpdate frame d.exposure).night == .night && inConfirmed d.glare.table i) := by
  rw [updateNight_eq, meteredTiles]
  by_cases day : entersDay frame d.exposure
  · simp only [day.2, show (NightState.day == NightState.night) = false from rfl, Bool.false_and]
  · simp only [if_neg day]

/-- The exposure commanded after a completion; as before if the metered set is empty (R45). -/
def commandedAfter (c : Completed) (d : SideState) : Nat :=
  (meteredExposure c d).getD d.exposure.commanded

theorem commandedAfter_eq (c : Completed) (d : SideState) : commandedAfter c d =
    if meteredTiles d = [] then d.exposure.commanded
    else newExposure d.exposure.limits d.exposure.commanded
      (rawExposure d.exposure.limits c.exposure (meteredMean c (meteredTiles d))) := by
  unfold commandedAfter meteredExposure
  simp only [List.isEmpty_iff]
  split
  all_goals rfl

/-- The exposure commanded after a night update, in terms of the side before it but for the night state. -/
theorem commandedAfter_updateNight (c : Completed) (frame : Nat) (d : SideState) :
    let e := d.exposure
    let tiles := (List.range 192).filter fun i =>
      (intersects i d.geometry.mainInForce || intersects i d.geometry.wideInForce) &&
        !((nightUpdate frame e).night == .night && inConfirmed d.glare.table i)
    commandedAfter c (updateNight frame d) = if tiles = [] then e.commanded
      else newExposure e.limits e.commanded (rawExposure e.limits c.exposure (meteredMean c tiles)) := by
  dsimp only
  rw [commandedAfter_eq, meteredTiles_updateNight, updateNight_eq]

/-- A side after the metering of a completion: SET_EXPOSURE is admitted exactly if the exposure changed (R46). -/
def meteredSide (c : Completed) (d : SideState) (now : PartTime) : SideState :=
  { d with
    exposure := { d.exposure with commanded := commandedAfter c d },
    channel := if commandedAfter c d = d.exposure.commanded then d.channel
      else admittedChannel (.setExposure (commandedAfter c d)) d.channel now }

theorem meteredSide_of_held {c : Completed} {d : SideState} (h : commandedAfter c d = d.exposure.commanded)
    (now : PartTime) : meteredSide c d now = d := by
  rw [meteredSide, if_pos h, h]

theorem meter_within (s : State) (x : Side) (c : Completed) (d : SideState) (out : List Output)
    (handed : List Transition) : ∃ sent, meter x c (s.within x d out handed) =
      s.within x (meteredSide c d s.now) (out ++ sent) handed := by
  unfold meter
  rw [within_side]
  cases metered : meteredExposure c d with
  | none =>
    have held : commandedAfter c d = d.exposure.commanded := by rw [commandedAfter, metered]; rfl
    exact ⟨[], by rw [meteredSide_of_held held, List.append_nil]⟩
  | some e =>
    have new : commandedAfter c d = e := by rw [commandedAfter, metered]; rfl
    by_cases held : e = d.exposure.commanded
    · exact ⟨[], by rw [meteredSide_of_held (new.trans held), List.append_nil]; exact if_pos held⟩
    · obtain ⟨sent, submitted⟩ := within_submit s x { d with exposure := { d.exposure with commanded := e } } out
        handed (.setExposure e)
      refine ⟨sent, (if_neg held).trans ?_⟩
      rw [within_onSide, submitted, meteredSide, new, if_neg held]

/-! ## The event -/

/-- The oldest completion taken from those waiting. -/
def withWaiting (d : SideState) (rest : List Completed) : SideState :=
  { d with exposure := { d.exposure with waiting := rest } }

/-- A side after the Exposure Controller has taken a completion. -/
def exposureTakenSide (c : Completed) (rest : List Completed) (d : SideState) (now : PartTime) : SideState :=
  meteredSide c (updateNight c.exposure (withWaiting d rest)) now

theorem exec_exposureCompletionTaken {x : Side} {c : Completed} {rest : List Completed} {s : State}
    (hp : s.powered = true) (hw : (s.side x).exposure.waiting = c :: rest) :
    ∃ sent, exec (.exposureCompletionTaken x) s =
      .next (s.within x (exposureTakenSide c rest (s.side x) s.now) sent []) := by
  obtain ⟨sent, metered⟩ := meter_within s x c (updateNight c.exposure (withWaiting (s.side x) rest)) [] []
  refine ⟨sent, (event_powered hp _).trans (congrArg _ ?_)⟩
  unfold takeExposure
  rw [beginEvent_within s x, within_side, hw]
  dsimp only
  rw [within_onSide]
  exact metered

/-- Every block of a side after a completion is taken, by the night update of its Exposure Controller and by the
exposure then commanded. -/
theorem exposureTakenSide_eq (c : Completed) (rest : List Completed) (d : SideState) (now : PartTime) :
    let e := (withWaiting d rest).exposure
    let new := commandedAfter c (updateNight c.exposure (withWaiting d rest))
    exposureTakenSide c rest d now = { d with
      exposure := { e with
        night := (nightUpdate c.exposure e).night, nightRun := (nightUpdate c.exposure e).nightRun,
        commanded := new },
      glare := if entersDay c.exposure e then emptyGlare d.glare else d.glare,
      gain := if entersDay c.exposure e then publish unityGains d.gain else d.gain,
      channel := if new = d.exposure.commanded then d.channel
        else admittedChannel (.setExposure new) d.channel now } := by
  dsimp only
  unfold exposureTakenSide meteredSide
  generalize commandedAfter c (updateNight c.exposure (withWaiting d rest)) = new
  rw [updateNight_eq]
  rfl

/-- Settles O35: the night update, the exposure commanded from the tiles it leaves metered, and the admission. -/
theorem exposureCompletionMetersAndCommands : Obligations.ExposureCompletionMetersAndCommands := by
  intro x c rest s hp hw
  obtain ⟨sent, taken⟩ := exec_exposureCompletionTaken hp hw
  refine ⟨_, taken, oneSide_within .., within_reports .., rfl, ?_⟩
  rw [within_side, exposureTakenSide_eq, commandedAfter_updateNight]
  have meets := nightThreshold_iff (e := (withWaiting (s.side x) rest).exposure) (frame := c.exposure)
  refine ⟨fun turns => nightUpdate_turning (turns.imp_left meets.2), fun stays => ?_, rfl,
    fun day => ⟨if_pos day, if_pos day⟩, fun stays => ⟨if_neg stays, if_neg stays⟩, ?_, rfl⟩
  · obtain ⟨night, counted, restarted⟩ := nightUpdate_staying fun turns => stays (turns.imp_left meets.1)
    exact ⟨night, fun met => counted (meets.2 met), fun missed => restarted (mt meets.1 missed)⟩
  · rw [admit_channel]
    rfl

end Sys2Proof.Machine

/-! # The lists of the Glare Tracker (O38)

Regions and entries are ordered, and a region is chosen, by rankings: one key, then the next. Identifiers go round from
255 to 1, so the first free one after the counter is at most as far as there are entries, plus one. -/

namespace Sys2Proof.Machine

/-! ## Rankings -/

/-- An order of the tracker in which elements may be alike: no two come before each other, and what comes before
neither of two neighbours is not skipped over. -/
structure Ranking {α : Type} (before : α → α → Bool) : Prop where
  asymm : ∀ {a b}, before a b = true → before b a = false
  trans : ∀ {a b c}, before a b = false → before b c = false → before a c = false

section
variable {α : Type} {before : α → α → Bool}

theorem Ranking.irrefl (R : Ranking before) (a : α) : before a a = false := by
  cases h : before a a with
  | false => rfl
  | true => exact h ▸ R.asymm h

theorem insertBy_perm (before : α → α → Bool) (a : α) (l : List α) : (insertBy before a l).Perm (a :: l) := by
  induction l with
  | nil => exact .refl _
  | cons b l ih =>
    unfold insertBy
    split
    · exact .refl _
    · exact (ih.cons b).trans (.swap a b l)

theorem sortBy_perm (before : α → α → Bool) (l : List α) : (sortBy before l).Perm l := by
  induction l with
  | nil => exact .refl _
  | cons a l ih => exact (insertBy_perm before a _).trans (ih.cons a)

theorem Ranking.insertBy_sorted (R : Ranking before) (a : α) {l : List α}
    (h : l.Pairwise fun b c => before c b = false) : (insertBy before a l).Pairwise fun b c => before c b = false := by
  induction l with
  | nil => exact List.pairwise_singleton _ _
  | cons b l ih =>
    obtain ⟨hb, hl⟩ := List.pairwise_cons.1 h
    unfold insertBy
    split
    · next hab =>
      refine List.pairwise_cons.2 ⟨fun c hc => ?_, h⟩
      rcases List.mem_cons.1 hc with rfl | hc
      · exact R.asymm hab
      · exact R.trans (hb c hc) (R.asymm hab)
    · next hab =>
      refine List.pairwise_cons.2 ⟨fun c hc => ?_, ih hl⟩
      rcases mem_insertBy.1 hc with rfl | hc
      · simpa using hab
      · exact hb c hc

/-- In a sorted list nothing comes before what stands before it. -/
theorem Ranking.sorted (R : Ranking before) (l : List α) : (sortBy before l).Pairwise fun b c => before c b = false := by
  induction l with
  | nil => exact List.Pairwise.nil
  | cons a l ih => exact R.insertBy_sorted a ih

/-- One more element offered to the best so far. -/
def pickBy (better : α → α → Bool) (best : Option α) (a : α) : Option α :=
  match best with
  | none => some a
  | some b => if better a b then some a else some b

/-- The pick from a list and a first element: one of them, and none of them is better. -/
theorem Ranking.pick_from (R : Ranking before) (b : α) (l : List α) :
    ∃ r ∈ b :: l, l.foldl (pickBy before) (some b) = some r ∧ ∀ q ∈ b :: l, before q r = false := by
  induction l generalizing b with
  | nil => exact ⟨b, List.mem_cons_self .., rfl, by simpa using R.irrefl b⟩
  | cons a l ih =>
    cases hab : before a b with
    | true =>
      obtain ⟨r, hr, picked, best⟩ := ih a
      have hbr : before b r = false := R.trans (R.asymm hab) (best a (List.mem_cons_self ..))
      exact ⟨r, List.mem_cons_of_mem _ hr, by simpa [pickBy, hab] using picked, List.forall_mem_cons.2 ⟨hbr, best⟩⟩
    | false =>
      obtain ⟨r, hr, picked, best⟩ := ih b
      obtain ⟨hbr, hl⟩ := List.forall_mem_cons.1 best
      refine ⟨r, ?_, by simpa [pickBy, hab] using picked,
        List.forall_mem_cons.2 ⟨hbr, List.forall_mem_cons.2 ⟨R.trans hab hbr, hl⟩⟩⟩
      rcases List.mem_cons.1 hr with rfl | hr
      · exact List.mem_cons_self ..
      · exact List.mem_cons_of_mem _ (List.mem_cons_of_mem _ hr)

/-- The pick from a list is none exactly if the list is empty. -/
theorem Ranking.pick_none (R : Ranking before) {l : List α} : l.foldl (pickBy before) none = none ↔ l = [] := by
  cases l with
  | nil => simp
  | cons b l =>
    obtain ⟨r, -, picked, -⟩ := R.pick_from b l
    simp [pickBy, picked]

theorem Ranking.pick_some (R : Ranking before) {l : List α} {r : α} (h : l.foldl (pickBy before) none = some r) :
    r ∈ l ∧ ∀ q ∈ l, before q r = false := by
  cases l with
  | nil => exact absurd h (by simp)
  | cons b l =>
    obtain ⟨r', hr, picked, best⟩ := R.pick_from b l
    obtain rfl : r' = r := Option.some.inj (picked.symm.trans h)
    exact ⟨hr, best⟩

end

theorem regionBefore_iff {a b : Region} :
    regionBefore a b = true ↔ b.peak < a.peak ∨ (a.peak = b.peak ∧ a.first < b.first) := by
  simp [regionBefore]

theorem regionBefore_not_iff {a b : Region} :
    regionBefore a b = false ↔ a.peak < b.peak ∨ (b.peak = a.peak ∧ b.first ≤ a.first) := by
  rw [← Bool.not_eq_true, regionBefore_iff]
  omega

theorem ranking_regionBefore : Ranking regionBefore where
  asymm h := by
    rw [regionBefore_iff] at h
    rw [regionBefore_not_iff]
    omega
  trans h g := by
    rw [regionBefore_not_iff] at *
    omega

theorem grantBefore_not_iff {a b : GlareEntry} :
    grantBefore a b = false ↔ a.peak < b.peak ∨ (b.peak = a.peak ∧ b.ident ≤ a.ident) := by
  rw [← Bool.not_eq_true]
  simp only [grantBefore, Bool.or_eq_true, Bool.and_eq_true, decide_eq_true_eq, beq_iff_eq]
  omega

theorem ranking_grantBefore : Ranking grantBefore where
  asymm h := by
    simp only [grantBefore, Bool.or_eq_true, Bool.and_eq_true, decide_eq_true_eq, beq_iff_eq] at h
    rw [grantBefore_not_iff]
    omega
  trans h g := by
    rw [grantBefore_not_iff] at *
    omega

theorem prefers_iff {box : Box} {a b : Region} : prefers box a b = true ↔
    overlap box b < overlap box a ∨ (overlap box a = overlap box b ∧ regionBefore a b = true) := by
  simp [prefers, regionBefore]

theorem prefers_not_iff {box : Box} {a b : Region} : prefers box a b = false ↔
    overlap box a < overlap box b ∨ (overlap box a = overlap box b ∧ regionBefore a b = false) := by
  rw [← Bool.not_eq_true, prefers_iff]
  cases regionBefore a b with
  | true => simp only [and_true, Bool.true_eq_false, and_false, or_false]; omega
  | false => simp only [Bool.false_eq_true, and_false, or_false, and_true]; omega

theorem ranking_prefers (box : Box) : Ranking (prefers box) where
  asymm h := by
    rw [prefers_iff] at h
    rw [prefers_not_iff]
    exact h.imp id fun ⟨alike, first⟩ => ⟨alike.symm, ranking_regionBefore.asymm first⟩
  trans h g := by
    rw [prefers_not_iff] at *
    rcases h with h | ⟨h, hab⟩
    · exact .inl (by omega)
    · rcases g with g | ⟨g, hbc⟩
      · exact .inl (by omega)
      · exact .inr ⟨h.trans g, ranking_regionBefore.trans hab hbc⟩

/-! ## Association (R60, R61) -/

theorem insideBox_iff {t : Nat} {b : Box} : insideBox t b = true ↔
    b.column0 ≤ t % 16 ∧ t % 16 ≤ b.column1 ∧ b.row0 ≤ t / 16 ∧ t / 16 ≤ b.row1 := by
  simp only [insideBox, Bool.and_eq_true, decide_eq_true_eq, and_assoc]
  rfl

/-- A tile of the grid lies in a grown box if it is at most one tile away from the box. -/
theorem insideBox_grown {t : Nat} (ht : t < 192) (b : Box) : insideBox t (grownBox b) =
    decide (b.column0 ≤ t % 16 + 1 ∧ t % 16 ≤ b.column1 + 1 ∧ b.row0 ≤ t / 16 + 1 ∧ t / 16 ≤ b.row1 + 1) := by
  rw [Bool.eq_iff_iff, insideBox_iff, decide_eq_true_iff]
  simp only [grownBox]
  omega

theorem overlap_eq (box : Box) {r : Region} (h : ∀ i ∈ r.tiles, i < 192) :
    overlap box r = (r.tiles.filter fun i => decide (box.column0 ≤ i % 16 + 1 ∧ i % 16 ≤ box.column1 + 1 ∧
      box.row0 ≤ i / 16 + 1 ∧ i / 16 ≤ box.row1 + 1)).length := by
  unfold overlap
  rw [List.filter_congr fun i hi => insideBox_grown (h i hi) box]

/-- The regions that an entry can take. -/
def offered (box : Box) (regions : List Region) : List Region :=
  regions.filter fun r => r.matched.isNone && 1 ≤ overlap box r

theorem mem_offered {box : Box} {regions : List Region} {r : Region} :
    r ∈ offered box regions ↔ r ∈ regions ∧ r.matched = none ∧ 1 ≤ overlap box r := by
  simp [offered]

theorem bestRegion_eq (box : Box) (regions : List Region) :
    bestRegion box regions = (offered box regions).foldl (pickBy (prefers box)) none := by
  unfold bestRegion offered
  congr 1
  funext best r
  cases best <;> rfl

theorem bestRegion_none_iff (box : Box) (regions : List Region) :
    bestRegion box regions = none ↔ ∀ r ∈ regions, r.matched = none → overlap box r = 0 := by
  rw [bestRegion_eq, (ranking_prefers box).pick_none, List.eq_nil_iff_forall_not_mem]
  refine forall_congr' fun r => ?_
  rw [mem_offered]
  simp only [not_and, not_le, Nat.lt_one_iff]

theorem bestRegion_some {box : Box} {regions : List Region} {r : Region} (h : bestRegion box regions = some r) :
    r ∈ regions ∧ r.matched = none ∧ 1 ≤ overlap box r ∧
      ∀ q ∈ regions, q.matched = none → overlap box q < overlap box r ∨
        (overlap box q = overlap box r ∧ (q.peak < r.peak ∨ (q.peak = r.peak ∧ r.first ≤ q.first))) := by
  rw [bestRegion_eq] at h
  obtain ⟨hr, best⟩ := (ranking_prefers box).pick_some h
  obtain ⟨mem, free, meets⟩ := mem_offered.1 hr
  refine ⟨mem, free, meets, fun q hq hfree => ?_⟩
  by_cases hmeets : 1 ≤ overlap box q
  · have := prefers_not_iff.1 (best q (mem_offered.2 ⟨hq, hfree, hmeets⟩))
    rw [regionBefore_not_iff] at this
    omega
  · exact .inl (by omega)

/-- The entries in table order: the first takes its best region, the others choose among what is left. -/
theorem associate_cons (e : GlareEntry) (later : List GlareEntry) (regions : List Region) :
    associate (e :: later) regions =
      (let taken := bestRegion e.box regions
       let others := associate later (match taken with
         | none => regions
         | some r => regions.map fun q => if q.first = r.first then { q with matched := some e.ident } else q)
       ((e, taken) :: others.1, others.2)) := by
  rw [associate]
  cases bestRegion e.box regions <;> rfl

/-! ## Sightings and misses (R62 to R65) -/

/-- A sighting gives an entry the region's box and peak; its state and counts follow from its state. -/
theorem sighted_box (e : GlareEntry) (r : Region) :
    (sighted e r).box = r.box ∧ (sighted e r).peak = r.peak ∧ (sighted e r).ident = e.ident := by
  unfold sighted
  dsimp only
  repeat' split
  all_goals exact ⟨rfl, rfl, rfl⟩

theorem sighted_candidate {e : GlareEntry} (r : Region) (h : e.state = .candidate) :
    (e.seen < 2 → (sighted e r).state = .candidate ∧ (sighted e r).seen = e.seen + 1) ∧
      (e.seen = 2 → (sighted e r).state = .confirmed ∧ (sighted e r).seen = 3 ∧ (sighted e r).missed = 0) := by
  simp only [sighted, h]
  refine ⟨fun few => ?_, fun third => ?_⟩
  · rw [if_neg (by omega)]
    exact ⟨rfl, rfl⟩
  · rw [if_pos (by omega)]
    exact ⟨rfl, rfl, rfl⟩

theorem sighted_confirmed {e : GlareEntry} (r : Region) (h : e.state = .confirmed) :
    (sighted e r).state = .confirmed ∧ (sighted e r).seen = 3 ∧ (sighted e r).missed = 0 := by
  simp [sighted, h]

theorem sighted_fading {e : GlareEntry} (r : Region) (h : e.state = .fading) :
    (sighted e r).state = .confirmed ∧ (sighted e r).missed = 0 := by
  simp [sighted, h]

theorem missedEntry_candidate {e : GlareEntry} (h : e.state = .candidate) : missedEntry e = none := by
  simp [missedEntry, h]

theorem missedEntry_confirmed {e : GlareEntry} (h : e.state = .confirmed) :
    missedEntry e = some { e with state := .fading, missed := 1 } := by
  simp [missedEntry, h]

theorem missedEntry_fading {e : GlareEntry} (h : e.state = .fading) :
    missedEntry e = if e.missed + 1 = 6 then none else some { e with missed := e.missed + 1 } := by
  simp [missedEntry, h]

theorem applySightings_eq (entries : List (GlareEntry × Option Region)) :
    applySightings entries = entries.filterMap fun p =>
      (match p.2 with | some r => some (sighted p.1 r) | none => missedEntry p.1).map aged := by
  unfold applySightings
  congr 1
  funext ⟨e, taken⟩
  cases taken <;> rfl

/-! ## Identifiers and offers (R66, R67) -/

/-- The n-th identifier after a counter, from 255 on to 1. -/
def identAfter (c n : Nat) : Nat := (c + n - 1) % 255 + 1

theorem nextIdent_eq {c : Nat} (h : c ≤ 255) : nextIdent c = identAfter c 1 := by
  unfold nextIdent identAfter
  split <;> omega

theorem identAfter_identAfter (c : Nat) {m n : Nat} (h : 1 ≤ m) (hn : 1 ≤ n) :
    identAfter (identAfter c m) n = identAfter c (m + n) := by
  unfold identAfter
  omega

theorem identAfter_le (c n : Nat) : identAfter c n ≤ 255 := by
  unfold identAfter
  omega

/-- A search with fuel m passes used identifiers only, and ends at a free one before its fuel does. -/
theorem freeIdent_search (used : List Nat) (m : Nat) {c : Nat} (hc : c ≤ 255) :
    ∃ n, 1 ≤ n ∧ n ≤ m + 1 ∧ freeIdent used m c = identAfter c n ∧
      (∀ k, 1 ≤ k → k < n → identAfter c k ∈ used) ∧ (n ≤ m → identAfter c n ∉ used) := by
  induction m generalizing c with
  | zero => exact ⟨1, le_rfl, le_rfl, nextIdent_eq hc, by omega, by omega⟩
  | succ m ih =>
    unfold freeIdent
    rw [nextIdent_eq hc]
    by_cases taken : identAfter c 1 ∈ used
    · obtain ⟨n, h1, hm, found, passed, free⟩ := ih (identAfter_le c 1)
      rw [identAfter_identAfter c le_rfl h1, Nat.add_comm] at found free
      refine ⟨n + 1, by omega, by omega, by simpa [taken] using found, fun k hk hkn => ?_, fun h => free (by omega)⟩
      obtain rfl | hk1 : k = 1 ∨ 1 ≤ k - 1 := by omega
      · exact taken
      · have := passed (k - 1) hk1 (by omega)
        rwa [identAfter_identAfter c le_rfl hk1, Nat.add_sub_cancel' hk] at this
    · exact ⟨1, le_rfl, by omega, by simp [taken], by omega, fun _ => taken⟩

/-- Fewer than 256 identifiers in a row are distinct. -/
theorem identAfter_injective {c m n : Nat} (hm : 1 ≤ m) (hm' : m ≤ 255) (hn : 1 ≤ n) (hn' : n ≤ 255)
    (h : identAfter c m = identAfter c n) : m = n := by
  unfold identAfter at h
  omega

/-- With at most 11 identifiers in use, the search finds the first free one. -/
theorem freeIdent_first {used : List Nat} (hu : used.length < 12) {c : Nat} (hc : c ≤ 255) :
    ∃ n, 1 ≤ n ∧ n ≤ 12 ∧ freeIdent used 255 c = identAfter c n ∧ identAfter c n ∉ used ∧
      ∀ k, 1 ≤ k → k < n → identAfter c k ∈ used := by
  obtain ⟨n, h1, hn, found, passed, free⟩ := freeIdent_search used 255 hc
  have distinct : ((List.range' 1 (n - 1)).map (identAfter c)).Nodup :=
    (List.nodup_map_iff_inj_on List.nodup_range').2 fun a ha b hb => by
      rw [List.mem_range'_1] at ha hb
      exact identAfter_injective ha.1 (by omega) hb.1 (by omega)
  have inUse : (List.range' 1 (n - 1)).map (identAfter c) ⊆ used := by
    intro i hi
    obtain ⟨k, hk, rfl⟩ := List.mem_map.1 hi
    rw [List.mem_range'_1] at hk
    exact passed k hk.1 (by omega)
  have few := (distinct.subperm inUse).length_le
  rw [List.length_map, List.length_range'] at few
  exact ⟨n, h1, by omega, found, free (by omega), passed⟩

section
variable {a : Creation} {r : Region}

theorem offerEntry_taken (h : r.matched.isSome = true) : offerEntry a r = { a with regions := a.regions ++ [r] } :=
  if_pos h

theorem offerEntry_full (h : r.matched = none) (full : 12 ≤ a.table.length) :
    offerEntry a r = { a with regions := a.regions ++ [r], untracked := a.untracked + 1 } := by
  simp [offerEntry, h, Nat.not_lt.2 full]

/-- A region offered a new entry, which takes the identifier that the search finds. -/
theorem offerEntry_new (h : r.matched = none) (room : a.table.length < 12) :
    let ident := freeIdent (a.table.map GlareEntry.ident) 255 a.counter
    offerEntry a r = { a with
      table := a.table ++ [newEntry ident r], counter := ident,
      regions := a.regions ++ [{ r with matched := some ident }] } := by
  simp [offerEntry, h, room]

end

/-- Settles O38: sightings and misses, the overlap, the choice, the association, the ageing and the offers. -/
theorem entriesMoveByTheirSightingsAndMisses : Obligations.EntriesMoveByTheirSightingsAndMisses := by
  refine ⟨fun e r => ⟨sighted_box e r, fun hs _ => ⟨missedEntry_candidate hs, sighted_candidate r hs⟩,
      fun hs => ⟨missedEntry_confirmed hs, sighted_confirmed r hs⟩, fun hs => ⟨sighted_fading r hs, ?_⟩⟩,
    fun box r h => overlap_eq box h, fun box regions => ⟨bestRegion_none_iff box regions, fun r => bestRegion_some⟩,
    fun _ => rfl, associate_cons, applySightings_eq,
    fun a r => ⟨offerEntry_taken, offerEntry_full, fun free room hc => ?_⟩⟩
  · rw [missedEntry_fading hs]
    exact ⟨fun few => if_neg (by omega), fun sixth => if_pos (by omega)⟩
  · obtain ⟨n, h1, hn, found, unused, passed⟩ :=
      freeIdent_first (used := a.table.map GlareEntry.ident) (by rwa [List.length_map]) hc
    refine ⟨identAfter a.counter n, n, h1, hn, rfl, fun e he same => unused (same ▸ List.mem_map_of_mem he),
      fun m hm hmn => List.mem_map.1 (passed m hm hmn), ?_⟩
    rw [offerEntry_new free room, found]
    rfl

end Sys2Proof.Machine

/-! # The grant walk (O37)

After each entry of the walk the targeted tiles are those in the boxes granted so far, each once, and both counts are
theirs. So an entry's test is about the tiles of each window in the boxes granted before it or in its own. -/

namespace Sys2Proof.Machine

/-- The grant that the outcomes of a walk give an identifier. -/
def given (o : List (Nat × Grant)) (i : Nat) : Grant := (o.lookup i).getD .none

theorem given_snoc_self {o : List (Nat × Grant)} {i : Nat} (h : i ∉ o.map Prod.fst) (g : Grant) :
    given (o ++ [(i, g)]) i = g := by
  have absent : o.lookup i = none := List.lookup_eq_none_iff.2 fun p hp => by
    simpa using fun e : i = p.1 => h (e ▸ List.mem_map_of_mem hp)
  simp [given, List.lookup_append, absent]

theorem given_snoc_of_ne {i j : Nat} (h : j ≠ i) (o : List (Nat × Grant)) (g : Grant) :
    given (o ++ [(i, g)]) j = given o j := by
  have hb : (j == i) = false := by simpa using h
  simp [given, List.lookup_append, List.lookup, hb]

theorem given_of_not_mem {o : List (Nat × Grant)} {i : Nat} (h : i ∉ o.map Prod.fst) : given o i = .none := by
  have absent : o.lookup i = none := List.lookup_eq_none_iff.2 fun p hp => by
    simpa using fun e : i = p.1 => h (e ▸ List.mem_map_of_mem hp)
  simp [given, absent]

theorem applyGrants_eq (a : Walk) (table : List GlareEntry) :
    applyGrants a table = table.map fun e => { e with grant := given a.outcomes e.ident } := rfl

/-- Whether a tile lies in the box of an entry that holds a grant. -/
def inGranted (o : List (Nat × Grant)) (entries : List GlareEntry) (i : Nat) : Bool :=
  entries.any fun f => given o f.ident == .granted && insideBox i f.box

/-- Whether the tiles of a window that satisfy a test are within its cap. -/
def underCap (cap : Nat) (w : Window) (tiles : Nat → Bool) : Bool :=
  decide (((List.range 192).filter fun i => intersects i w && tiles i).length ≤ windowCap cap w)

/-- The tiles that an entry's test counts: those of its own box and of the boxes granted before it. -/
def testedTiles (o : List (Nat × Grant)) (before : List GlareEntry) (e : GlareEntry) (i : Nat) : Bool :=
  insideBox i e.box || inGranted o before i

/-- What the walk has to give an entry, by the grants of the entries before it. -/
def dueGrant (main wide : Window) (cap : Nat) (o : List (Nat × Grant)) (before : List GlareEntry) (e : GlareEntry) :
    Grant :=
  if underCap cap main (testedTiles o before e) && underCap cap wide (testedTiles o before e) then .granted
  else .denied

/-- A list of tiles without repeats that holds the tiles of the grid that satisfy a test has, of each window, as many
tiles as the grid. -/
theorem length_filter_window {l : List Nat} {tiles : Nat → Bool} (distinct : l.Nodup)
    (mem : ∀ i, i ∈ l ↔ i < 192 ∧ tiles i = true) (w : Window) :
    (l.filter fun i => intersects i w).length =
      ((List.range 192).filter fun i => intersects i w && tiles i).length := by
  refine List.Perm.length_eq ((List.perm_ext_iff_of_nodup (distinct.filter _) (List.nodup_range.filter _)).2 fun i => ?_)
  simp only [List.mem_filter, mem, List.mem_range, Bool.and_eq_true]
  tauto

/-- What a walk over entries with distinct identifiers has come to. -/
structure Walked (main wide : Window) (cap : Nat) (done : List GlareEntry) (a : Walk) : Prop where
  outcomes : a.outcomes = done.map fun e => (e.ident, given a.outcomes e.ident)
  distinct : a.targeted.Nodup
  targeted : ∀ i, i ∈ a.targeted ↔ i < 192 ∧ inGranted a.outcomes done i = true
  mainCount : a.mainCount = (a.targeted.filter fun i => intersects i main).length
  wideCount : a.wideCount = (a.targeted.filter fun i => intersects i wide).length
  mainCap : a.mainCount ≤ windowCap cap main
  wideCap : a.wideCount ≤ windowCap cap wide
  due : ∀ before e later, done = before ++ e :: later →
    given a.outcomes e.ident = dueGrant main wide cap a.outcomes before e

section
variable {main wide : Window} {cap : Nat} {done : List GlareEntry} {a : Walk} {e : GlareEntry}

theorem Walked.idents (W : Walked main wide cap done a) : a.outcomes.map Prod.fst = done.map GlareEntry.ident := by
  rw [W.outcomes, List.map_map]
  rfl

theorem Walked.nil : Walked main wide cap [] ⟨[], 0, 0, []⟩ where
  outcomes := rfl
  distinct := .nil
  targeted := by simp [inGranted]
  mainCount := rfl
  wideCount := rfl
  mainCap := Nat.zero_le _
  wideCap := Nat.zero_le _
  due before e later h := by simp at h

/-- The tiles that a grant of the entry would add. -/
def newTiles (a : Walk) (e : GlareEntry) : List Nat :=
  (boxTiles e.box).filter fun t => !a.targeted.contains t

theorem mem_newTiles {i : Nat} : i ∈ newTiles a e ↔ (i < 192 ∧ insideBox i e.box = true) ∧ i ∉ a.targeted := by
  rw [newTiles, boxTiles, List.mem_filter, List.mem_filter, List.mem_range]
  simp

theorem Walked.withNew_distinct (W : Walked main wide cap done a) (e : GlareEntry) :
    (a.targeted ++ newTiles a e).Nodup :=
  List.nodup_append.2 ⟨W.distinct, (List.nodup_range.filter _).filter _,
    fun _ hi _ hj same => (mem_newTiles.1 hj).2 (same ▸ hi)⟩

theorem Walked.mem_withNew (W : Walked main wide cap done a) (e : GlareEntry) (i : Nat) :
    i ∈ a.targeted ++ newTiles a e ↔ i < 192 ∧ testedTiles a.outcomes done e i = true := by
  rw [List.mem_append, mem_newTiles, W.targeted, testedTiles, Bool.or_eq_true]
  tauto

theorem underCap_iff {w : Window} {tiles : Nat → Bool} {l : List Nat} (distinct : l.Nodup)
    (mem : ∀ i, i ∈ l ↔ i < 192 ∧ tiles i = true) :
    underCap cap w tiles = true ↔ (l.filter fun i => intersects i w).length ≤ windowCap cap w := by
  rw [underCap, decide_eq_true_iff, length_filter_window distinct mem]

/-- A step of the walk gives the entry the grant that is due, and targets its tiles if that is GRANTED. -/
theorem Walked.grantStep_eq (W : Walked main wide cap done a) (e : GlareEntry) : grantStep main wide cap a e =
    if dueGrant main wide cap a.outcomes done e = .granted then
      { targeted := a.targeted ++ newTiles a e,
        mainCount := ((a.targeted ++ newTiles a e).filter fun i => intersects i main).length,
        wideCount := ((a.targeted ++ newTiles a e).filter fun i => intersects i wide).length,
        outcomes := a.outcomes ++ [(e.ident, .granted)] }
    else { a with outcomes := a.outcomes ++ [(e.ident, .denied)] } := by
  have fits (w : Window) := underCap_iff (cap := cap) (w := w) (W.withNew_distinct e) (W.mem_withNew e)
  have test : dueGrant main wide cap a.outcomes done e = .granted ↔
      a.mainCount + ((newTiles a e).filter fun i => intersects i main).length ≤ windowCap cap main ∧
        a.wideCount + ((newTiles a e).filter fun i => intersects i wide).length ≤ windowCap cap wide := by
    rw [W.mainCount, W.wideCount, ← List.length_append, ← List.length_append, ← List.filter_append,
      ← List.filter_append, ← fits, ← fits, ← Bool.and_eq_true, dueGrant]
    split <;> simp_all
  unfold grantStep
  dsimp only
  by_cases granted : dueGrant main wide cap a.outcomes done e = .granted
  · obtain ⟨hm, hw⟩ := test.1 granted
    rw [if_neg (by unfold newTiles at hm hw; omega), if_pos granted, List.filter_append, List.filter_append,
      List.length_append, List.length_append, ← W.mainCount, ← W.wideCount]
    rfl
  · rw [if_neg granted, if_pos]
    by_contra h
    exact granted (test.2 (by unfold newTiles; omega))

theorem dueGrant_eq_denied (h : dueGrant main wide cap a.outcomes done e ≠ .granted) :
    dueGrant main wide cap a.outcomes done e = .denied := by
  unfold dueGrant at *
  split at h
  · exact absurd rfl h
  · next fails => rw [if_neg fails]

section
variable (fresh : e.ident ∉ done.map GlareEntry.ident) (g : Grant)
include fresh

/-- Entries before one with a fresh identifier hold what they held. -/
theorem given_before {f : GlareEntry} (hf : f ∈ done) :
    given (a.outcomes ++ [(e.ident, g)]) f.ident = given a.outcomes f.ident :=
  given_snoc_of_ne (fun same : f.ident = e.ident => fresh (same ▸ List.mem_map_of_mem hf)) _ _

theorem inGranted_before {before : List GlareEntry} (sub : before ⊆ done) (i : Nat) :
    inGranted (a.outcomes ++ [(e.ident, g)]) before i = inGranted a.outcomes before i := by
  unfold inGranted
  rw [Bool.eq_iff_iff, List.any_eq_true, List.any_eq_true]
  exact exists_congr fun f => and_congr_right fun hf => by rw [given_before fresh g (sub hf)]

theorem dueGrant_before {before : List GlareEntry} (sub : before ⊆ done) (f : GlareEntry) :
    dueGrant main wide cap (a.outcomes ++ [(e.ident, g)]) before f = dueGrant main wide cap a.outcomes before f := by
  have same : testedTiles (a.outcomes ++ [(e.ident, g)]) before f = testedTiles a.outcomes before f :=
    funext fun i => by rw [testedTiles, inGranted_before fresh g sub, testedTiles]
  rw [dueGrant, same, dueGrant]

end

/-- The walk over one more entry. -/
theorem Walked.step (W : Walked main wide cap done a) (fresh : e.ident ∉ done.map GlareEntry.ident) :
    Walked main wide cap (done ++ [e]) (grantStep main wide cap a e) := by
  have self (g : Grant) : given (a.outcomes ++ [(e.ident, g)]) e.ident = g := given_snoc_self (W.idents ▸ fresh) g
  have outcomes (g : Grant) : a.outcomes ++ [(e.ident, g)] = (done ++ [e]).map fun f =>
      (f.ident, given (a.outcomes ++ [(e.ident, g)]) f.ident) := by
    rw [List.map_append, List.map_singleton, self,
      List.map_congr_left fun f hf => by rw [given_before fresh g hf], ← W.outcomes]
  have due (g : Grant) (hg : dueGrant main wide cap a.outcomes done e = g) (before : List GlareEntry) (f : GlareEntry)
      (later : List GlareEntry) (split : done ++ [e] = before ++ f :: later) :
      given (a.outcomes ++ [(e.ident, g)]) f.ident =
        dueGrant main wide cap (a.outcomes ++ [(e.ident, g)]) before f := by
    rcases List.eq_nil_or_concat later with rfl | ⟨later, last, rfl⟩
    · obtain ⟨rfl, same⟩ := List.append_inj' split rfl
      obtain rfl : e = f := by simpa using same
      rw [self, dueGrant_before fresh g (List.Subset.refl _), hg]
    · rw [List.concat_eq_append, ← List.cons_append, ← List.append_assoc] at split
      obtain ⟨rfl, -⟩ := List.append_inj' split rfl
      rw [given_before fresh g (by simp), dueGrant_before fresh g (by simp), W.due before f later rfl]
  have granted (g : Grant) (i : Nat) : inGranted (a.outcomes ++ [(e.ident, g)]) (done ++ [e]) i =
      (inGranted a.outcomes done i || (g == .granted && insideBox i e.box)) := by
    rw [← inGranted_before fresh g (List.Subset.refl _)]
    simp [inGranted, self]
  rw [W.grantStep_eq]
  split
  · next hg =>
    have fits (w : Window) := underCap_iff (cap := cap) (w := w) (W.withNew_distinct e) (W.mem_withNew e)
    have both : underCap cap main (testedTiles a.outcomes done e) = true ∧
        underCap cap wide (testedTiles a.outcomes done e) = true := by
      unfold dueGrant at hg
      split at hg
      · next h => simpa using h
      · exact absurd hg (by decide)
    exact ⟨outcomes _, W.withNew_distinct e, fun i => by
      rw [W.mem_withNew, granted, testedTiles, Bool.or_comm]; rfl, rfl, rfl, (fits main).1 both.1,
      (fits wide).1 both.2, due _ hg⟩
  · next hg =>
    exact ⟨outcomes _, W.distinct, fun i => by rw [W.targeted, granted]; simp, W.mainCount, W.wideCount, W.mainCap,
      W.wideCap, due _ (dueGrant_eq_denied hg)⟩

theorem Walked.foldl (l : List GlareEntry) (W : Walked main wide cap done a)
    (distinct : ((done ++ l).map GlareEntry.ident).Nodup) :
    Walked main wide cap (done ++ l) (l.foldl (grantStep main wide cap) a) := by
  induction l generalizing done a with
  | nil => simpa using W
  | cons e l ih =>
    have fresh : e.ident ∉ done.map GlareEntry.ident := by
      rw [List.map_append, List.map_cons] at distinct
      exact fun h => (List.nodup_append.1 distinct).2.2 _ h _ (List.mem_cons_self ..) rfl
    rw [List.append_cons] at distinct ⊢
    exact ih (W.step fresh) distinct

end

/-- The entries in the order of the walk (R69). -/
def walkOrder (table : List GlareEntry) : List GlareEntry :=
  sortBy grantBefore (table.filter fun e => e.state == .confirmed)

theorem walkOrder_perm (table : List GlareEntry) : (walkOrder table).Perm (table.filter fun e => e.state == .confirmed) :=
  sortBy_perm _ _

theorem mem_walkOrder {table : List GlareEntry} {e : GlareEntry} :
    e ∈ walkOrder table ↔ e ∈ table ∧ e.state = .confirmed := by
  rw [(walkOrder_perm table).mem_iff]
  simp

section
variable {table : List GlareEntry} (distinct : (table.map GlareEntry.ident).Nodup)
include distinct

theorem walkOrder_distinct : ((walkOrder table).map GlareEntry.ident).Nodup :=
  ((walkOrder_perm table).map _).nodup_iff.2 (distinct.sublist (List.filter_sublist.map _))

theorem walkOrder_sorted : (walkOrder table).Pairwise fun a b =>
    b.peak < a.peak ∨ (a.peak = b.peak ∧ a.ident < b.ident) := by
  refine ((ranking_grantBefore.sorted _).and (List.pairwise_map.1 (walkOrder_distinct distinct))).imp ?_
  rintro a b ⟨order, ne⟩
  rw [grantBefore_not_iff] at order
  omega

theorem grantWalk_walked (main wide : Window) (cap : Nat) :
    Walked main wide cap (walkOrder table) (grantWalk main wide cap table) := by
  have W := Walked.foldl (walkOrder table) (Walked.nil (main := main) (wide := wide) (cap := cap))
    (by rw [List.nil_append]; exact walkOrder_distinct distinct)
  rwa [List.nil_append] at W

/-- Only a CONFIRMED entry holds a grant after the walk. -/
theorem given_unconfirmed (main wide : Window) (cap : Nat) {e : GlareEntry} (he : e ∈ table)
    (hs : e.state ≠ .confirmed) : given (grantWalk main wide cap table).outcomes e.ident = .none := by
  refine given_of_not_mem fun h => ?_
  rw [(grantWalk_walked distinct main wide cap).idents] at h
  obtain ⟨f, hf, same⟩ := List.mem_map.1 h
  obtain ⟨hf, confirmed⟩ := mem_walkOrder.1 hf
  obtain rfl : f = e := List.inj_on_of_nodup_map distinct hf he same
  exact hs confirmed

/-- The tiles in the boxes of the GRANTED entries of the table are those in the boxes that the walk granted. -/
theorem any_granted_eq (main wide : Window) (cap : Nat) (i : Nat) :
    ((applyGrants (grantWalk main wide cap table) table).any fun e => e.grant == .granted && insideBox i e.box) =
      inGranted (grantWalk main wide cap table).outcomes (walkOrder table) i := by
  rw [applyGrants_eq, List.any_map, Bool.eq_iff_iff, inGranted, List.any_eq_true, List.any_eq_true]
  refine exists_congr fun e => ?_
  rw [mem_walkOrder, and_assoc]
  refine and_congr_right fun he => (and_iff_right_of_imp fun h => ?_).symm
  by_contra hs
  simp [given_unconfirmed distinct main wide cap he hs] at h

end

/-- Settles O37: the caps by the counts of the walk, the grants by what is due to each entry in the order of the walk. -/
theorem grantedTilesStayUnderTheCapOfEachWindow : Obligations.GrantedTilesStayUnderTheCapOfEachWindow := by
  intro main wide cap table distinct _
  have W := grantWalk_walked distinct main wide cap
  have under (w : Window) := underCap_iff (cap := cap) (w := w) W.distinct W.targeted
  have targeted := funext (any_granted_eq distinct main wide cap)
  refine ⟨⟨?_, ?_⟩, given (grantWalk main wide cap table).outcomes, walkOrder table, applyGrants_eq _ _,
    fun e he hs => given_unconfirmed distinct main wide cap he hs, walkOrder_perm table, walkOrder_sorted distinct,
    W.due⟩
  · rw [targeted]
    exact (under main).2 (W.mainCount ▸ W.mainCap)
  · rw [targeted]
    exact (under wide).2 (W.wideCount ▸ W.wideCap)

end Sys2Proof.Machine

/-! # The glare table, the gains and the completion taken (O8, O36)

What a completion does to the table is the sightings of its entries, which add no identifier, and the offers, each under
a free one. What it does to the gains is a ramp between targets, both of them in range. -/

namespace Sys2Proof.Machine

/-! ## The table (R58, R67) -/

/-- At most 12 entries with distinct identifiers of 1 to 255, and a counter of at most 255. -/
structure TableSound (table : List GlareEntry) (counter : Nat) : Prop where
  few : table.length ≤ 12
  distinct : (table.map GlareEntry.ident).Nodup
  range : ∀ e ∈ table, 1 ≤ e.ident ∧ e.ident ≤ 255
  counter : counter ≤ 255

theorem TableSound.empty {counter : Nat} (h : counter ≤ 255) : TableSound [] counter :=
  ⟨Nat.zero_le _, .nil, by simp, h⟩

/-- A table is sound whose identifiers are among those of a sound one, in their order. -/
theorem TableSound.sublist {table kept : List GlareEntry} {counter : Nat} (h : TableSound table counter)
    (sub : (kept.map GlareEntry.ident).Sublist (table.map GlareEntry.ident)) : TableSound kept counter where
  few := by simpa using sub.length_le.trans (by simpa using h.few)
  distinct := h.distinct.sublist sub
  range e he := by
    obtain ⟨f, hf, same⟩ := List.mem_map.1 (sub.subset (List.mem_map_of_mem he))
    exact same ▸ h.range f hf
  counter := h.counter

theorem associate_entries (es : List GlareEntry) (regions : List Region) :
    (associate es regions).1.map Prod.fst = es := by
  induction es generalizing regions with
  | nil => rfl
  | cons e es ih =>
    rw [associate_cons]
    exact congrArg (e :: ·) (ih _)

theorem missedEntry_ident {e f : GlareEntry} (h : missedEntry e = some f) : f.ident = e.ident := by
  cases hs : e.state with
  | candidate => simp [missedEntry_candidate hs] at h
  | confirmed => rw [missedEntry_confirmed hs] at h; exact Option.some.inj h ▸ rfl
  | fading =>
    rw [missedEntry_fading hs] at h
    split at h
    · exact absurd h (by simp)
    · exact Option.some.inj h ▸ rfl

/-- Sightings and misses add no identifier. -/
theorem applySightings_idents (l : List (GlareEntry × Option Region)) :
    ((applySightings l).map GlareEntry.ident).Sublist ((l.map Prod.fst).map GlareEntry.ident) := by
  induction l with
  | nil => exact .refl _
  | cons p l ih =>
    rw [applySightings_eq] at ih ⊢
    obtain ⟨e, taken⟩ := p
    cases taken with
    | some r =>
      simp only [List.filterMap_cons, Option.map_some, List.map_cons]
      rw [show (aged (sighted e r)).ident = e.ident from (sighted_box e r).2.2]
      exact ih.cons_cons _
    | none =>
      cases missed : missedEntry e with
      | none =>
        simp only [List.filterMap_cons, missed, Option.map_none, List.map_cons]
        exact ih.cons _
      | some f =>
        simp only [List.filterMap_cons, missed, Option.map_some, List.map_cons]
        rw [show (aged f).ident = e.ident from (missedEntry_ident missed :)]
        exact ih.cons_cons _

theorem TableSound.sightings {table : List GlareEntry} {counter : Nat} (h : TableSound table counter)
    (regions : List Region) : TableSound (applySightings (associate table regions).1) counter :=
  h.sublist (by simpa only [associate_entries] using applySightings_idents (associate table regions).1)

/-- An offer adds an entry under a free identifier, or none. -/
theorem TableSound.offer {a : Creation} (h : TableSound a.table a.counter) (r : Region) :
    TableSound (offerEntry a r).table (offerEntry a r).counter := by
  cases free : r.matched with
  | some i => rw [offerEntry_taken (by rw [free]; rfl)]; exact h
  | none =>
    by_cases room : a.table.length < 12
    · obtain ⟨n, -, -, found, unused, -⟩ :=
        freeIdent_first (used := a.table.map GlareEntry.ident) (by rwa [List.length_map]) h.counter
      rw [← found] at unused
      have range := freeIdent_range (a.table.map GlareEntry.ident) 255 a.counter
      rw [offerEntry_new free room]
      refine ⟨by simpa using room, ?_, fun e he => ?_, range.2⟩
      · rw [List.map_append, List.map_singleton]
        exact List.nodup_append.2 ⟨h.distinct, List.nodup_singleton _, fun i hi j hj same => by
          rw [same, List.mem_singleton.1 hj] at hi
          exact unused hi⟩
      · rcases List.mem_append.1 he with he | he
        · exact h.range e he
        · rw [List.mem_singleton.1 he]
          exact range
    · rw [offerEntry_full free (Nat.not_lt.1 room)]; exact h

theorem TableSound.offers {a : Creation} (h : TableSound a.table a.counter) (l : List Region) :
    TableSound (l.foldl offerEntry a).table (l.foldl offerEntry a).counter := by
  induction l generalizing a with
  | nil => exact h
  | cons r l ih => exact ih (h.offer r)

theorem TableSound.grants {table : List GlareEntry} {counter : Nat} (h : TableSound table counter) (a : Walk) :
    TableSound (applyGrants a table) counter :=
  h.sublist (by rw [applyGrants_idents])

/-- What sightings and offers make of the table, before the walk. -/
def createdFrom (c : Completed) (g : Glare) : Creation :=
  let taken := associate g.table ((formRegions c (hotTiles g.settings.minHot c)).take 12)
  taken.2.foldl offerEntry ⟨applySightings taken.1, g.counter, [], 0⟩

theorem createdFrom_sound {g : Glare} (h : TableSound g.table g.counter) (c : Completed) :
    TableSound (createdFrom c g).table (createdFrom c g).counter :=
  TableSound.offers (h.sightings _) _

/-- The walk over the table so made. -/
def walkAfter (c : Completed) (main wide : Window) (g : Glare) : Walk :=
  grantWalk main wide g.settings.cap (createdFrom c g).table

theorem track_eq (c : Completed) (main wide : Window) (g : Glare) :
    let formed := formRegions c (hotTiles g.settings.minHot c)
    track c main wide g =
      ({ g with
          table := applyGrants (walkAfter c main wide g) (createdFrom c g).table,
          counter := (createdFrom c g).counter, regions := (createdFrom c g).regions,
          formed := formed.length, kept := min 12 formed.length },
        formed.length - min 12 formed.length + (createdFrom c g).untracked,
        ((walkAfter c main wide g).outcomes.filter fun o => o.2 == .denied).length) := by
  dsimp only
  rw [← List.length_take]
  rfl

theorem track_sound {g : Glare} (h : TableSound g.table g.counter) (c : Completed) (main wide : Window) :
    TableSound (track c main wide g).1.table (track c main wide g).1.counter := by
  rw [track_eq]
  exact (createdFrom_sound h c).grants _

theorem track_settings (c : Completed) (main wide : Window) (g : Glare) :
    (track c main wide g).1.settings = g.settings := by
  rw [track_eq]

/-! ## The gains (R74 to R76) -/

/-- 192 gains of 512 to 4,096. -/
structure GainsSound (gains : List Nat) : Prop where
  length : gains.length = 192
  range : ∀ g ∈ gains, 512 ≤ g ∧ g ≤ 4096

theorem unityGains_sound : GainsSound unityGains :=
  ⟨by rw [unityGains, List.length_replicate], fun g hg => by rw [List.eq_of_mem_replicate hg]; decide⟩

section
variable {g : GlareSettings} (h : glareInRange g)
include h

theorem targetGain_range (peak : Option Nat) : 512 ≤ targetGain g peak ∧ targetGain g peak ≤ 4096 := by
  obtain ⟨-, -, -, -, floor, -⟩ := h
  unfold targetGain
  split <;> omega

/-- A ramp from a gain in range ends in range. -/
theorem rampGain_range {gain : Nat} (hg : 512 ≤ gain ∧ gain ≤ 4096) (peak : Option Nat) :
    512 ≤ rampGain g gain (targetGain g peak) ∧ rampGain g gain (targetGain g peak) ≤ 4096 := by
  have target := targetGain_range h peak
  unfold rampGain
  split <;> omega

theorem rampGains_sound {gains : List Nat} (hg : GainsSound gains) {peaks : List (Option Nat)}
    (hp : peaks.length = 192) : GainsSound (rampGains g peaks gains) := by
  refine ⟨by simp [rampGains, hg.length, hp], fun v hv => ?_⟩
  obtain ⟨i, hi, rfl⟩ := List.getElem_of_mem hv
  simp only [rampGains, List.getElem_zipWith]
  exact rampGain_range h (hg.range _ (List.getElem_mem _)) _

end

theorem glarePeaks_length (table : List GlareEntry) : (glarePeaks table).length = 192 := by
  simp [glarePeaks]

/-! ## The law of a side -/

/-- What the laws of the gain map and of the glare table say of a side. -/
structure GlareSound (d : SideState) : Prop where
  gains : GainsSound d.gain.gains
  unity : d.sup.view ≠ .normal ∨ d.exposure.night = .day → d.gain.gains = unityGains
  settings : glareInRange d.glare.settings
  table : TableSound d.glare.table d.glare.counter
  empty : d.exposure.night = .day ∨ d.sup.view = .off → d.glare.table = []

theorem glareSound_iff (s : State) : (GainLaw s ∧ GlareLaw s) ↔ ∀ x, GlareSound (s.side x) := by
  constructor
  · rintro ⟨hg, ht⟩ x
    obtain ⟨length, range, unity, settings⟩ := hg x
    obtain ⟨few, distinct, idents, counter, empty⟩ := ht x
    exact ⟨⟨length, range⟩, unity, settings, ⟨few, distinct, idents, counter⟩, empty⟩
  · exact fun h => ⟨fun x => ⟨(h x).gains.length, (h x).gains.range, (h x).unity, (h x).settings⟩,
      fun x => ⟨(h x).table.few, (h x).table.distinct, (h x).table.range, (h x).table.counter, (h x).empty⟩⟩

/-- Two states of a side that agree in what the two laws look at. -/
structure SameGlare (d e : SideState) : Prop where
  gain : e.gain = d.gain := by rfl
  view : e.sup.view = d.sup.view := by rfl
  night : e.exposure.night = d.exposure.night := by rfl
  settings : e.glare.settings = d.glare.settings := by rfl
  table : e.glare.table = d.glare.table := by rfl
  counter : e.glare.counter = d.glare.counter := by rfl

namespace GlareSound

variable {d e : SideState}

theorem congr (h : GlareSound d) (same : SameGlare d e) : GlareSound e where
  gains := by rw [same.gain]; exact h.gains
  unity := by rw [same.gain, same.view, same.night]; exact h.unity
  settings := by rw [same.settings]; exact h.settings
  table := by rw [same.table, same.counter]; exact h.table
  empty := by rw [same.table, same.night, same.view]; exact h.empty

/-- Another view and the map that its change publishes (R78): a side that leaves NORMAL, and only that, publishes an
all-4,096 map. -/
theorem viewed (h : GlareSound d) {v : ViewState} {version : Word16} (hv : v = .off → d.sup.view = .off)
    (sup : Supervision) (hs : sup.view = v) : GlareSound { d with
      sup := sup, gain := if d.sup.view = .normal ∧ v ≠ .normal then ⟨unityGains, version⟩ else d.gain } := by
  subst hs
  refine ⟨?_, fun out => ?_, h.settings, h.table, fun out => h.empty (out.imp_right hv)⟩
  · dsimp only
    split
    · exact unityGains_sound
    · exact h.gains
  · dsimp only
    split
    · rfl
    · next stays =>
      refine h.unity (out.imp_left fun other normal => stays ⟨normal, other⟩)

/-- A night update empties the table and publishes an all-4,096 map exactly where it enters DAY (R49, R71, R78). -/
theorem updateNight (h : GlareSound d) (frame : Nat) : GlareSound (updateNight frame d) := by
  rw [updateNight_eq]
  by_cases day : entersDay frame d.exposure
  · simp only [if_pos day]
    exact ⟨unityGains_sound, fun _ => rfl, h.settings, .empty h.table.counter, fun _ => rfl⟩
  · simp only [if_neg day]
    have before : (nightUpdate frame d.exposure).night = .day → d.exposure.night = .day := fun now => by
      cases night : d.exposure.night with
      | day => rfl
      | night => exact absurd ⟨night, now⟩ day
    exact ⟨h.gains, fun out => h.unity (out.imp_right before), h.settings, h.table,
      fun out => h.empty (out.imp_left before)⟩

/-- A completion tracked in NIGHT on a side that runs. -/
theorem trackSide (h : GlareSound d) (night : d.exposure.night = .night) (runs : d.sup.view ≠ .off) (c : Completed) :
    GlareSound (trackSide c d) := by
  have table := track_sound h.table c d.geometry.mainInForce d.geometry.wideInForce
  have settings : glareInRange (track c d.geometry.mainInForce d.geometry.wideInForce d.glare).1.settings := by
    rw [track_settings]; exact h.settings
  have awake : ¬(d.exposure.night = .day ∨ d.sup.view = .off) := by
    rw [night]
    simpa using runs
  unfold Machine.trackSide publishHanding
  dsimp only
  by_cases normal : d.sup.view = .normal
  · rw [if_pos ⟨normal, night⟩]
    exact ⟨rampGains_sound settings h.gains (glarePeaks_length _), fun out => absurd out (by simp [normal, night]),
      settings, table, fun out => absurd out awake⟩
  · rw [if_neg fun both => normal both.1]
    exact ⟨unityGains_sound, fun _ => rfl, settings, table, fun out => absurd out awake⟩

/-- A start of a side that is OFF (R144): its map is all 4,096 and its table empty. -/
theorem started (h : GlareSound d) (off : d.sup.view = .off) (x : Side) (t : PartTime) (timing : Timing)
    (signals : SignalTable) (sup : Supervision) :
    GlareSound { startBlocks x t timing signals d with sup := sup } :=
  ⟨h.gains, fun _ => h.unity (.inl (by rw [off]; decide)), h.settings, h.table, fun _ => h.empty (.inr off)⟩

/-- A stop of a side (R71, R78, R149). -/
theorem stopped (h : GlareSound d) (x : Side) (f : FaultSet) (channel : Channel) :
    GlareSound { stoppedBlocks x f d with channel := channel } := by
  unfold stoppedBlocks
  by_cases normal : d.sup.view = .normal
  · simp only [if_pos normal]
    exact ⟨unityGains_sound, fun _ => rfl, h.settings, .empty h.table.counter, fun _ => rfl⟩
  · simp only [if_neg normal]
    exact ⟨h.gains, fun _ => h.unity (.inl normal), h.settings, .empty h.table.counter, fun _ => rfl⟩

/-- Other settings in range. -/
theorem withSettings (h : GlareSound d) {g : GlareSettings} (hg : glareInRange g)
    (same : SameGlare { d with glare := { d.glare with settings := g } } e) : GlareSound e :=
  GlareSound.congr (d := { d with glare := { d.glare with settings := g } })
    ⟨h.gains, h.unity, hg, h.table, h.empty⟩ same

theorem reset : GlareSound resetSide :=
  ⟨unityGains_sound, fun _ => rfl, defaultGlare_inRange, .empty (Nat.zero_le _), fun _ => rfl⟩

end GlareSound

end Sys2Proof.Machine

/-! # Every step keeps the laws of the gain map and of the glare table (O8)

Few operations touch the map, the table, the night state or the view; the others leave the side sound by `SameGlare`. A
side starts from OFF, where its map is all 4,096 and its table empty, and a completion waits only at a side that runs,
so the part law goes along. -/

namespace Sys2Proof.Machine

/-- The two laws as a predicate of each side. -/
def soundGlare (_ : Side) (d : SideState) : Prop := GlareSound d

theorem blind_soundGlare : Blind soundGlare where
  faults _ h := h.congr {}
  settled ts h := h.viewed settledView_off.1 _ rfl
  counters _ h := h.congr {}

/-- Both sides are sound. -/
structure GlareSides (s : State) : Prop where
  sides : Sides soundGlare s

namespace GlareSides

variable {s : State} {x : Side}

/-! ## Operations -/

theorem congr (h : GlareSides s) {t : State} (hl : t.left = s.left := by rfl) (hr : t.right = s.right := by rfl) :
    GlareSides t := ⟨h.sides.congr hl hr⟩

theorem setSide (h : GlareSides s) {d : SideState} (hd : GlareSound d) : GlareSides (s.setSide x d) :=
  ⟨h.sides.setSide hd⟩

/-- A change of a side that the laws do not look at. -/
theorem onSide (h : GlareSides s) {f : SideState → SideState}
    (hf : SameGlare (s.side x) (f (s.side x)) := by exact {}) : GlareSides (s.onSide x f) :=
  ⟨h.sides.onSide fun hx => hx.congr hf⟩

theorem emit (h : GlareSides s) {o : Output} : GlareSides (s.emit o) := h.congr

theorem count (h : GlareSides s) {f : Counters → Counters} : GlareSides (s.count x f) := h.onSide

theorem raise (h : GlareSides s) {k : FaultKind} : GlareSides (raise x k s) := ⟨h.sides.raise blind_soundGlare⟩

theorem gone (h : GlareSides s) {k : FaultKind} : GlareSides (gone x k s) := ⟨h.sides.gone blind_soundGlare⟩

theorem raisePart (h : GlareSides s) {k : FaultKind} : GlareSides (raisePart k s) :=
  ⟨h.sides.raisePart blind_soundGlare⟩

theorem gonePart (h : GlareSides s) {k : FaultKind} : GlareSides (gonePart k s) := ⟨h.sides.gonePart blind_soundGlare⟩

theorem settle (h : GlareSides s) : GlareSides (settle s) := ⟨h.sides.settle blind_soundGlare⟩

theorem setView (h : GlareSides s) {v : ViewState} (hv : v ≠ .off) : GlareSides (setView x v s) := by
  rw [setView_eq]
  exact h.setSide (GlareSound.viewed (h.sides x) (fun off => absurd off hv) _ rfl)

theorem foldl {α : Type} {f : State → α → State} (hf : ∀ u a, GlareSides u → GlareSides (f u a)) (l : List α)
    (h : GlareSides s) : GlareSides (l.foldl f s) :=
  ⟨Sides.foldl (fun u a hu => (hf u a ⟨hu⟩).sides) l h.sides⟩

theorem dispatch (h : GlareSides s) : GlareSides (dispatch x s) := ⟨h.sides.dispatch fun _ hx => hx.congr {}⟩

theorem submit (h : GlareSides s) {t : Transaction} : GlareSides (submit x t s) :=
  ⟨h.sides.submit fun _ hx => hx.congr {}⟩

theorem acknowledged (h : GlareSides s) : GlareSides (acknowledged x s) := h.onSide.gone.dispatch

theorem failed (h : GlareSides s) : GlareSides (failed x s) := by
  unfold Machine.failed
  repeat' split
  · exact h.onSide
  · exact h.onSide.raise.dispatch
  · exact h.onSide.count.emit

/-! ## Capture -/

theorem fire (h : GlareSides s) : GlareSides (fire x s) := h.emit.gone

theorem dropLate (h : GlareSides s) : GlareSides (dropLate x s) := h.count.raise

theorem releaseHold (h : GlareSides s) : GlareSides (releaseHold x s) := by
  have clear : GlareSides (clearHold x s) := h.onSide
  unfold Machine.releaseHold
  split
  · exact h
  · split
    · exact clear.fire
    · exact clear.dropLate

theorem camExpired (h : GlareSides s) : GlareSides (camExpired x s) := by
  have advanced : GlareSides (s.onSide x fun d => { d with cam := d.cam.advance }) := h.onSide
  unfold Machine.camExpired holdTrigger
  dsimp only
  repeat' split
  · exact advanced
  · exact advanced.dropLate.onSide
  · exact advanced.onSide
  · exact advanced.fire

theorem phaseCorrect (h : GlareSides s) {e : Int} : GlareSides (phaseCorrect x e s) := by
  unfold Machine.phaseCorrect
  repeat' split
  · exact h.onSide
  · exact h
  · exact h
  · exact h.onSide.submit

theorem phaseCount (h : GlareSides s) {e : Int} : GlareSides (phaseCount x e s) := by
  unfold Machine.phaseCount
  dsimp only
  repeat' split
  · exact h.onSide.gone
  · exact h.onSide
  · exact h.onSide.raise
  · exact h.onSide

theorem measurePhase (h : GlareSides s) : GlareSides (measurePhase x s) := by
  unfold Machine.measurePhase
  split
  · exact h
  · exact h.phaseCorrect.phaseCount

theorem malformed (h : GlareSides s) : GlareSides (malformed x s) := h.count.raise.gone

theorem frameStart (h : GlareSides s) {n e l : Word16} : GlareSides (frameStart x n e l s) := by
  unfold Machine.frameStart
  dsimp only
  split
  · exact h
  · split
    · exact h.malformed.onSide.gone.measurePhase.settle
    · exact h.onSide.gone.measurePhase.settle

theorem lineArrived (h : GlareSides s) {bytes : List Byte} : GlareSides (lineArrived x bytes s) := by
  unfold Machine.lineArrived
  split
  · exact h
  · split
    · exact h
    · refine h.onSide ?_
      split
      · rw [usedLine_eq]
        exact {}
      · exact {}

/-- A good frame leaves the completion waiting at the Glare Tracker, and its table as it was. -/
theorem sameGlare_passGood (f : FrameInProgress) (d : SideState) : SameGlare d (passGood f d) := by
  unfold passGood completeStatistics
  cases d.stats.collecting <;> exact {}

theorem frameEnd (h : GlareSides s) : GlareSides (frameEnd x s) := by
  have frozen {u : State} (f : FrameInProgress) (p : Port) (hu : GlareSides u) : GlareSides (frozenCheck x f p u) :=
    ⟨hu.sides.frozenCheck blind_soundGlare⟩
  unfold Machine.frameEnd
  dsimp only
  split
  · exact h
  · split
    · exact h
    · next f _ =>
      split
      · exact (frozen f _ (h.onSide (sameGlare_passGood f _))).releaseHold.settle
      · exact h.onSide.malformed.releaseHold.settle

theorem linkLostExpired (h : GlareSides s) : GlareSides (linkLostExpired x s) := by
  unfold Machine.linkLostExpired
  dsimp only
  split
  · exact h.onSide.raise.onSide.releaseHold.settle
  · exact h.onSide.raise.settle

/-! ## Exposure, glare and display -/

theorem takeExposure (h : GlareSides s) : GlareSides (takeExposure x s) := by
  have night (c : Completed) (rest : List Completed) : GlareSides (s.onSide x fun d =>
      updateNight c.exposure { d with exposure := { d.exposure with waiting := rest } }) :=
    ⟨h.sides.onSide fun hx => GlareSound.updateNight (d := withWaiting (s.side x) rest) (hx.congr {}) _⟩
  unfold Machine.takeExposure meter
  repeat' split
  · exact h
  · exact night _ _
  · exact night _ _
  · exact (night _ _).onSide.submit

/-- A completion is tracked in NIGHT only, at a side that runs. -/
theorem takeGlare (h : GlareSides s) (p : PartLaw s) : GlareSides (takeGlare x s) := by
  unfold Machine.takeGlare
  split
  · exact h
  · next c rest waiting =>
    refine ⟨h.sides.onSide fun hx => ?_⟩
    dsimp only
    split
    · exact hx.congr {}
    · next night =>
      have taken : GlareSound { s.side x with glare := { (s.side x).glare with waiting := rest } } := hx.congr {}
      exact taken.trackSide night (p.running_of_waiting (.inr (by rw [waiting]; exact List.cons_ne_nil _ _))) c

theorem vsyncExpired (h : GlareSides s) : GlareSides (vsyncExpired x s) := by
  have blocks : GlareSides (s.onSide x vsyncBlocks) := h.onSide
  have shown {u : State} {o : RingOutcome} (hu : GlareSides u) :
      GlareSides (Machine.settle (endStarting x o (repeatCheck x o u))) := by
    have hr : GlareSides (repeatCheck x o u) := ⟨hu.sides.repeatCheck blind_soundGlare⟩
    unfold endStarting
    split
    · exact (hr.setView (evaluated_ne_off _)).settle
    · exact hr.settle
  unfold Machine.vsyncExpired showFrame
  dsimp only
  repeat' split
  · exact h.onSide
  · exact (shown blocks.onSide.gone).onSide
  · exact (shown blocks).onSide

theorem tagCheck (h : GlareSides s) {b : Bool} : GlareSides (tagCheck x b s) := by
  unfold Machine.tagCheck
  dsimp only
  repeat' split
  · exact h.onSide.gone
  · exact h.onSide
  · exact h.onSide.raise
  · exact h.onSide

theorem latencyCheck (h : GlareSides s) {c : Option PartTime} : GlareSides (latencyCheck x c s) := by
  unfold Machine.latencyCheck
  dsimp only
  repeat' split
  · exact h
  · exact h.onSide.raise
  · exact h.onSide
  · exact h.onSide.gone
  · exact h.onSide

theorem sideCheck (h : GlareSides s) {c : Byte} {n crc : Word16} : GlareSides (sideCheck x c n crc s) := by
  unfold Machine.sideCheck lookUpEcho
  dsimp only
  repeat' split
  · exact h.gone.count
  · exact h.gone
  · exact h.gone.onSide.tagCheck.latencyCheck
  · exact h.raise

theorem echoArrived (h : GlareSides s) {c : Byte} {n crc : Word16} : GlareSides (echoArrived x c n crc s) := by
  unfold Machine.echoArrived
  dsimp only
  split
  · exact h.onSide
  · exact h.onSide.onSide.gone.sideCheck.settle

theorem echoByte (h : GlareSides s) {b : Byte} : GlareSides (echoByte x b s) := by
  unfold Machine.echoByte
  dsimp only
  repeat' split
  · exact h
  · exact h.onSide
  · exact h.echoArrived

/-! ## Geometry and signals -/

theorem overrideSide (h : GlareSides s) {f : Geometry → Overrides} : GlareSides (overrideSide x f s) := by
  unfold Machine.overrideSide
  split
  · exact h
  · exact h.onSide

theorem endInspectSide (h : GlareSides s) : GlareSides (endInspectSide s x) := by
  unfold Machine.endInspectSide
  split
  · exact h.onSide
  · exact h

theorem freshnessExpired (h : GlareSides s) {sig : Signal} : GlareSides (freshnessExpired sig s) := by
  have overridden : GlareSides (Machine.overrideSide .right (fun g => staleOverrides sig g.overrides)
      (Machine.overrideSide .left (fun g => staleOverrides sig g.overrides)
        { s with signals := makeStale sig s.signals })) := h.congr.overrideSide.overrideSide
  unfold Machine.freshnessExpired
  dsimp only
  split
  · exact overridden.raisePart.settle
  · exact overridden.settle

theorem vehicleState (h : GlareSides s) (p : List Byte) : GlareSides (ownVehicleState p s).state := by
  obtain e | ⟨r, signals, f, g, e⟩ := ownVehicleState_cases p s
  · exact e.symm ▸ h
  · rw [e]
    have overridden : GlareSides (Machine.overrideSide .right g (Machine.overrideSide .left f
      { s with signals := signals })) := h.congr.overrideSide.overrideSide
    unfold clearSignalStale
    split
    · exact overridden.gonePart.settle
    · exact overridden.settle

/-! ## Starts and stops -/

theorem startSide (h : GlareSides s) (off : (s.side x).sup.view = .off) : GlareSides (startSide s x) := by
  rw [startSide_eq off]
  exact (h.setSide ((h.sides x).started off x s.now s.timing s.signals _)).submit

theorem startIfOff (h : GlareSides s) : GlareSides (startIfOff s x) := by
  unfold Machine.startIfOff
  split
  · next off => exact h.startSide off
  · exact h

/-- A list of distinct sides that are OFF, started one after the other. -/
theorem startSides {l : List Side} (h : GlareSides s) (distinct : l.Nodup)
    (off : ∀ x ∈ l, (s.side x).sup.view = .off) : GlareSides (l.foldl Machine.startSide s) := by
  induction l generalizing s with
  | nil => exact h
  | cons x l ih =>
    obtain ⟨hx, hl⟩ := List.nodup_cons.1 distinct
    obtain ⟨offx, offl⟩ := List.forall_mem_cons.1 off
    refine ih (h.startSide offx) hl fun y hy => ?_
    rw [startSide_side_ne (fun e : y = x => hx (e ▸ hy)) offx]
    exact offl y hy

theorem startBoth (h : GlareSides s) (off : Sides offSide s) : GlareSides (startBoth s) :=
  h.startSides (l := [.left, .right]) (by decide) fun x _ => (off x).1

theorem stopSide (h : GlareSides s) : GlareSides (stopSide s x) :=
  ⟨stopSide_sides (fun y _ => h.sides y) fun f c => (h.sides x).stopped x f c⟩

theorem stopIfRunning (h : GlareSides s) : GlareSides (stopIfRunning s x) := by
  unfold Machine.stopIfRunning
  split
  · exact h
  · exact h.stopSide

theorem standbySide (h : GlareSides s) : GlareSides (standbySide s x) := by
  unfold Machine.standbySide
  split
  · exact h.submit
  · exact h.stopSide

/-! ## The part states -/

theorem endQuiescing (h : GlareSides s) : GlareSides (endQuiescing s) := by
  rw [endQuiescing_eq]
  exact h.congr

theorem volatileReset (s : State) : GlareSides (volatileReset s) :=
  ⟨Sides.both GlareSound.reset GlareSound.reset⟩

theorem deferredReset (h : GlareSides s) : GlareSides (deferredReset s) := by
  unfold Machine.deferredReset
  split
  · exact h
  · split
    · exact h
    · rw [makeReset, placeReply_eq]
      exact (volatileReset s).congr

theorem calibrated (h : GlareSides s) (bl br : Window) (ml mr : List (Option Nat)) (c : Word16) :
    GlareSides (s.calibrated bl br ml mr c) :=
  ⟨Sides.both ((h.sides .left).congr {}) ((h.sides .right).congr {})⟩

theorem initCalibration (h : GlareSides s) : GlareSides (initCalibration s) := by
  obtain ⟨bl, br, ml, mr, c, u, -, -, hu, e⟩ := initCalibration_cases s
  rw [e]
  obtain rfl | rfl := hu
  · exact h.calibrated ..
  · exact h.raisePart.calibrated ..

/-- A profile whose glare settings are in range. -/
def glareFits (p : Profile) : Prop := glareInRange p.left.glare ∧ glareInRange p.right.glare

theorem glareFits_correct (s : State) (p : Profile) : glareFits (correctProfile s p) :=
  ⟨clampGlare_inRange _, clampGlare_inRange _⟩

theorem glareFits_init (s : State) : glareFits (initProfile s) := by
  unfold initProfile
  dsimp only
  split
  · exact ⟨defaultGlare_inRange, defaultGlare_inRange⟩
  · exact glareFits_correct _ _

theorem applyProfile (h : GlareSides s) {p : Profile} (hp : glareFits p) : GlareSides (applyProfile p s) :=
  ⟨Sides.both ((h.sides .left).withSettings hp.1 {}) ((h.sides .right).withSettings hp.2 {})⟩

theorem loaded (h : GlareSides s) {p : Profile} (hp : glareFits p) : GlareSides (s.loaded p) :=
  ⟨Sides.both ((h.sides .left).withSettings hp.1 {}) ((h.sides .right).withSettings hp.2 {})⟩

theorem loadInitProfile (h : GlareSides s) : GlareSides (loadInitProfile s) := by
  rw [loadInitProfile_eq]
  exact h.loaded (glareFits_init s)

theorem setPart (h : GlareSides s) {p : PartState} : GlareSides (setPart p s) := h.congr

/-- The init completion finds both sides OFF (R177). -/
theorem initCompleted (h : GlareSides s) (p : PartLaw s) (due : due s.link.initTimer s.now = true) (wakeHigh : Bool) :
    GlareSides (initCompleted wakeHigh s) := by
  have init : s.link.part ≠ .active := fun active => by
    have armed := p.toOpen.link.init
    rw [active] at armed
    cases timer : s.link.initTimer <;> simp_all [Machine.due]
  have woken : GlareSides (setWakeLine wakeHigh { s with link := { s.link with initTimer := none } }) := h.congr
  have off : Sides offSide (setWakeLine wakeHigh { s with link := { s.link with initTimer := none } }) :=
    (p.toOpen.off init).congr rfl rfl
  have active := woken.initCalibration.loadInitProfile.setPart (p := .active)
  have loadedOff {u : State} (hu : Sides offSide u) :
      Sides offSide (Machine.setPart .active (Machine.loadInitProfile u)) := by
    rw [loadInitProfile_eq]
    exact (offSides_loaded _ hu).congr rfl rfl
  unfold Machine.initCompleted streamOffBoth
  dsimp only
  split
  · exact (active.startBoth (loadedOff (initCalibration_off off).1)).settle
  · exact active.submit.submit.settle

/-- The wake timer runs in STANDBY only, where both sides are OFF (R181, R182). -/
theorem wakeExpired (h : GlareSides s) (p : PartLaw s) (due : due s.link.wakeTimer s.now = true) :
    GlareSides (wakeExpired s) := by
  have standby : s.link.part ≠ .active := fun active => by
    have armed := p.toOpen.link.wake
    rw [active] at armed
    cases timer : s.link.wakeTimer <;> simp_all [Machine.due]
  have off := p.toOpen.off standby
  unfold Machine.wakeExpired
  dsimp only
  split
  · exact h.congr.startBoth (off.congr rfl rfl)
  · exact h.congr

theorem wakeLineRises (h : GlareSides s) : GlareSides (wakeLineRises s) := by
  have level : GlareSides (setWakeLine true s) := h.congr
  unfold Machine.wakeLineRises wakeEdge
  dsimp only
  repeat' split
  · exact level
  · exact level
  · exact level.startIfOff.startIfOff
  · exact level.congr
  · exact level.congr
  · exact level.congr

/-! ## The requests -/

theorem restoreView (h : GlareSides s) (p : List Byte) : GlareSides (ownRestoreView p s).state := by
  have B := blind_soundGlare
  obtain e | ⟨selector, sides, e⟩ := ownRestoreView_cases p s
  · exact e.symm ▸ h
  · rw [e]
    have restored : GlareSides (sides.foldl (restoreSide selector) s) :=
      h.foldl (fun u _ hu => ⟨hu.sides.restoreSide B⟩) sides
    refine GlareSides.settle ?_
    obtain e | ⟨bl, br, ml, mr, c, u, -, -, hu, e⟩ :=
      rereadIfNamed_cases selector sides (sides.foldl (restoreSide selector) s)
    · exact e.symm ▸ restored
    · rw [e]
      obtain rfl | rfl := hu
      · exact restored.calibrated ..
      · exact GlareSides.calibrated ⟨((restored.sides.setFault B).setFault B).hand⟩ ..

theorem modify (h : GlareSides s) (shut : Bool) (w : StoreWork) : GlareSides (modify shut w s).state :=
  modify_keeps h h.congr (fun _ => h.congr) shut w

theorem setGlareSettings (h : GlareSides s) (g : GlareSettings) : GlareSides (setGlareSettings (clampGlare g) s x) :=
  ⟨h.sides.onSide fun hx => hx.withSettings (clampGlare_inRange g) {}⟩

theorem own (h : GlareSides s) (k : RequestKind) (tag : Byte) (p : List Byte) :
    GlareSides (ownerOf k tag p s).state := by
  cases k with
  | status => exact h
  | identify => exact h
  | readGlare => exact (ownReadGlare_state p s).symm ▸ h
  | storeRead => exact (ownStoreRead_state p s).symm ▸ h
  | readHealth => exact h.congr
  | fetchReports => exact h.congr
  | vehicleState => exact h.vehicleState p
  | restoreView => exact h.restoreView p
  | storeLockFactory => exact h.modify _ _
  | standby => exact h.standbySide.standbySide.congr.settle
  | wake =>
    change GlareSides (wakeRequested s)
    unfold wakeRequested
    repeat' split
    all_goals exact h.congr
  | reset =>
    obtain e | e := ownReset_cases tag s
    · exact e.symm ▸ h.congr
    · exact e.symm ▸ volatileReset s
  | startView =>
    obtain e | ⟨sides, distinct, off, e⟩ := ownStartView_cases p s
    · exact e.symm ▸ h
    · exact e.symm ▸ h.startSides distinct off
  | stopView =>
    obtain e | ⟨sides, e⟩ := ownStopView_cases p s
    · exact e.symm ▸ h
    · exact e.symm ▸ (h.foldl (fun _ _ => stopIfRunning) sides).settle
  | setTiming =>
    obtain e | ⟨t, -, -, e⟩ := ownSetTiming_cases p s
    · exact e.symm ▸ h
    · exact e.symm ▸ h.congr
  | adjustView =>
    obtain e | ⟨_, _, _, _, _, -, e⟩ := ownAdjustView_cases p s
    · exact e.symm ▸ h
    · exact e.symm ▸ h.onSide
  | inspect =>
    obtain e | ⟨_, _, _, -, e⟩ := ownInspect_cases p s
    · exact e.symm ▸ h
    · exact e.symm ▸ h.onSide
  | endInspect =>
    obtain e | ⟨sides, e⟩ := ownEndInspect_cases p s
    · exact e.symm ▸ h
    · exact e.symm ▸ h.foldl (fun _ _ => endInspectSide) sides
  | setGlare =>
    obtain e | ⟨g, sides, e⟩ := ownSetGlare_cases p s
    · exact e.symm ▸ h
    · exact e.symm ▸ h.foldl (fun _ _ hu => hu.setGlareSettings g) sides
  | setTone =>
    obtain e | ⟨key, sides, e⟩ := ownSetTone_cases p s
    · exact e.symm ▸ h
    · exact e.symm ▸ h.foldl (fun _ _ hu => hu.onSide) sides
  | setExposureLimits =>
    obtain e | ⟨l, sides, e⟩ := ownSetExposureLimits_cases p s
    · exact e.symm ▸ h
    · exact e.symm ▸ h.foldl (fun _ _ hu => hu.onSide) sides
  | readCounters =>
    obtain e | ⟨sides, e⟩ := ownReadCounters_cases p s
    · exact e.symm ▸ h
    · exact e.symm ▸ h.foldl (fun _ _ hu => hu.onSide) sides
  | storeUnlock =>
    obtain e | e := ownStoreUnlock_cases s
    · exact e.symm ▸ h
    · exact e.symm ▸ h.congr
  | storeProtect =>
    obtain e | ⟨b, e⟩ := ownStoreProtect_cases p s
    · exact e.symm ▸ h
    · exact e.symm ▸ h.congr
  | storeWrite =>
    obtain e | ⟨shut, w, e⟩ := ownStoreWrite_cases p s
    · exact e.symm ▸ h
    · exact e.symm ▸ h.modify shut w
  | storeErase =>
    obtain e | ⟨shut, w, e⟩ := ownStoreErase_cases p s
    · exact e.symm ▸ h
    · exact e.symm ▸ h.modify shut w
  | saveProfile =>
    obtain e | ⟨shut, w, e⟩ := ownSaveProfile_cases p s
    · exact e.symm ▸ h
    · exact e.symm ▸ h.modify shut w
  | loadProfile =>
    obtain e | ⟨bytes, e⟩ := ownLoadProfile_cases p s
    · exact e.symm ▸ h
    · exact e.symm ▸ h.applyProfile (glareFits_correct _ _)

end GlareSides

/-- The part law with sound sides, which together are kept by every command. -/
structure GlarePart (s : State) : Prop where
  part : PartLaw s
  glare : GlareSides s

theorem glarePart_kept : Kept GlarePart where
  frame s l out handed free pending hl h := ⟨partLaw_kept.frame s l out handed free pending hl h.part, h.glare.congr⟩
  tick s hd h := ⟨partLaw_kept.tick s hd h.part, h.glare.congr⟩
  powerOn s := ⟨partLaw_kept.powerOn s, (GlareSides.volatileReset s).congr⟩
  powerLoss s h := ⟨partLaw_kept.powerLoss s h.part, h.glare.congr⟩
  initCompletion w s hp hd h := ⟨partLaw_kept.initCompletion w s hp hd h.part, h.glare.initCompleted h.part hd w⟩
  vsync x s hp hd h := ⟨partLaw_kept.vsync x s hp hd h.part, h.glare.vsyncExpired⟩
  camTrigger x s hp hd h := ⟨partLaw_kept.camTrigger x s hp hd h.part, h.glare.camExpired.settle⟩
  frameStart x n e l s hp h := ⟨partLaw_kept.frameStart x n e l s hp h.part, h.glare.frameStart⟩
  line x bytes s hp h := ⟨partLaw_kept.line x bytes s hp h.part, h.glare.lineArrived⟩
  frameEnd x s hp h := ⟨partLaw_kept.frameEnd x s hp h.part, h.glare.frameEnd⟩
  linkLost x s hp hd h := ⟨partLaw_kept.linkLost x s hp hd h.part, h.glare.linkLostExpired⟩
  exposureTaken x s hp h := ⟨partLaw_kept.exposureTaken x s hp h.part, h.glare.takeExposure⟩
  glareTaken x s hp h := ⟨partLaw_kept.glareTaken x s hp h.part, h.glare.takeGlare h.part⟩
  dispatch x s hp h := ⟨partLaw_kept.dispatch x s hp h.part, h.glare.dispatch⟩
  acknowledged x s hp h := ⟨partLaw_kept.acknowledged x s hp h.part, h.glare.acknowledged.settle.endQuiescing⟩
  failed x s hp h := ⟨partLaw_kept.failed x s hp h.part, h.glare.failed.settle.endQuiescing⟩
  echo x code n crc s hp h := ⟨partLaw_kept.echo x code n crc s hp h.part, h.glare.echoArrived⟩
  echoByte x b s hp h := ⟨partLaw_kept.echoByte x b s hp h.part, h.glare.echoByte⟩
  echoTimer x s hp hd h := ⟨partLaw_kept.echoTimer x s hp hd h.part, h.glare.onSide.raise.settle⟩
  echoIdle x s hp h := ⟨partLaw_kept.echoIdle x s hp h.part, h.glare.onSide⟩
  startTimer x s hp hd h := ⟨partLaw_kept.startTimer x s hp hd h.part, h.glare.onSide.raise.settle⟩
  freshness sig s hp h := ⟨partLaw_kept.freshness sig s hp h.part, h.glare.freshnessExpired⟩
  inspect x s hp hd h := ⟨partLaw_kept.inspect x s hp hd h.part, h.glare.onSide⟩
  wakeTimer s hp hd h := ⟨partLaw_kept.wakeTimer s hp hd h.part, h.glare.wakeExpired h.part hd⟩
  wakeLine s hp h := ⟨partLaw_kept.wakeLine s hp h.part, h.glare.wakeLineRises⟩
  sample v t s hp hd h :=
    ⟨partLaw_kept.sample v t s hp hd h.part, ⟨h.glare.sides.sampleArrived blind_soundGlare⟩⟩
  savePhase o s hp ho h := ⟨partLaw_kept.savePhase o s hp ho h.part, h.glare.congr⟩
  storeDone o s hp ho h := ⟨partLaw_kept.storeDone o s hp ho h.part, h.glare.congr.deferredReset.endQuiescing⟩
  deferredReset s hp h := ⟨partLaw_kept.deferredReset s hp h.part, h.glare.deferredReset⟩
  endQuiescing s hp h := ⟨partLaw_kept.endQuiescing s hp h.part, h.glare.endQuiescing⟩
  own k tag p s hp hk h := ⟨partLaw_kept.own k tag p s hp hk h.part, h.glare.own k tag p⟩

/-- Settles O8: sound maps and tables, with the part law, are kept by every command. -/
theorem stepsKeepTheGainAndGlareLaws : Obligations.StepsKeepTheGainAndGlareLaws := fun s t part gain glare e =>
  (glareSound_iff t).2 (glarePart_kept.step ⟨part, ⟨(glareSound_iff s).1 ⟨gain, glare⟩⟩⟩ e).glare.sides

end Sys2Proof.Machine

/-! # Regions and a completion taken by the Glare Tracker (O36)

A region is a set of hot tiles that carry one label. Each round lowers a tile's label to the least one at most one edge
away, so the tiles whose label is at most a bound only grow, and they grow no more after as many rounds as there are
tiles. Then tiles that share an edge have the same label, which is the lowest tile of those joined to them. -/

namespace Sys2Proof.Machine

/-! ## Labels (R56) -/

/-- Two tiles that share an edge, by their indices. -/
def Adjacent (i j : Nat) : Prop := (i / 16 = j / 16 ∧ (i + 1 = j ∨ j + 1 = i)) ∨ i + 16 = j ∨ j + 16 = i

theorem shareEdge_iff {a b : Nat} : shareEdge a b = true ↔ Adjacent a b := by
  simp only [shareEdge, tileRow, tileColumn, Bool.or_eq_true, Bool.and_eq_true, beq_iff_eq, Adjacent]
  omega

theorem Adjacent.symm {a b : Nat} (h : Adjacent a b) : Adjacent b a := by
  unfold Adjacent at *
  omega

/-- Tiles with their labels. -/
def tagged (hot : List Nat) (f : Nat → Nat) : List (Nat × Nat) := hot.map fun t => (t, f t)

/-- The least label among a tile's own and those of the tiles it shares an edge with. -/
def lowered (hot : List Nat) (f : Nat → Nat) (t : Nat) : Nat :=
  hot.foldl (fun m u => if shareEdge t u then min m (f u) else m) (f t)

theorem lowerLabels_tagged (hot : List Nat) (f : Nat → Nat) :
    lowerLabels (tagged hot f) = tagged hot (lowered hot f) := by
  unfold lowerLabels tagged lowered
  simp only [List.map_map, List.foldl_map]
  rfl

theorem lowering_le_iff (near : Nat → Bool) (f : Nat → Nat) (l : List Nat) (m v : Nat) :
    l.foldl (fun m u => if near u then min m (f u) else m) m ≤ v ↔ m ≤ v ∨ ∃ u ∈ l, near u = true ∧ f u ≤ v := by
  induction l generalizing m with
  | nil => simp
  | cons a l ih =>
    rw [List.foldl_cons, ih, List.exists_mem_cons_iff]
    cases near a <;> simp [or_assoc]

/-- A tile's lowered label is at most a bound if its own or that of a tile beside it is. -/
theorem lowered_le_iff {hot : List Nat} {f : Nat → Nat} {t v : Nat} :
    lowered hot f t ≤ v ↔ f t ≤ v ∨ ∃ u ∈ hot, Adjacent t u ∧ f u ≤ v := by
  unfold lowered
  rw [lowering_le_iff]
  simp only [shareEdge_iff]

/-- A lowered label is the tile's own or that of a tile beside it. -/
theorem lowered_cases (hot : List Nat) (f : Nat → Nat) (t : Nat) :
    lowered hot f t = f t ∨ ∃ u ∈ hot, Adjacent t u ∧ lowered hot f t = f u := by
  rcases lowered_le_iff.1 (le_refl (lowered hot f t)) with own | ⟨u, hu, near, beside⟩
  · exact .inl (le_antisymm (lowered_le_iff.2 (.inl le_rfl)) own)
  · exact .inr ⟨u, hu, near, le_antisymm (lowered_le_iff.2 (.inr ⟨u, hu, near, le_rfl⟩)) beside⟩

/-- The labels after a number of rounds. -/
def labelsAfter (hot : List Nat) (m : Nat) : Nat → Nat := (lowered hot)^[m] id

theorem labelsAfter_succ (hot : List Nat) (m : Nat) : labelsAfter hot (m + 1) = lowered hot (labelsAfter hot m) :=
  Function.iterate_succ_apply' ..

/-- Settling ends at the labels of some round, which the next round leaves, or which are those of the last round. -/
theorem settleLabels_tagged (hot : List Nat) (n m : Nat) : ∃ k,
    settleLabels n (tagged hot (labelsAfter hot m)) = tagged hot (labelsAfter hot k) ∧
      (tagged hot (labelsAfter hot (k + 1)) = tagged hot (labelsAfter hot k) ∨ k = m + n) := by
  induction n generalizing m with
  | zero => exact ⟨m, rfl, .inr rfl⟩
  | succ n ih =>
    unfold settleLabels
    dsimp only
    rw [lowerLabels_tagged, ← labelsAfter_succ]
    split
    · next fixed => exact ⟨m, rfl, .inl fixed⟩
    · obtain ⟨k, e, stop⟩ := ih (m + 1)
      exact ⟨k, e, stop.imp_right fun last => by omega⟩

/-- The tiles whose label after a number of rounds is at most a bound. -/
def labelledUpTo (hot : List Nat) (v m : Nat) : Finset Nat := hot.toFinset.filter fun t => labelsAfter hot m t ≤ v

theorem mem_labelledUpTo {hot : List Nat} {v m t : Nat} :
    t ∈ labelledUpTo hot v m ↔ t ∈ hot ∧ labelsAfter hot m t ≤ v := by
  simp [labelledUpTo]

/-- A round adds the tiles beside those that are in. -/
theorem mem_labelledUpTo_succ {hot : List Nat} {v m t : Nat} : t ∈ labelledUpTo hot v (m + 1) ↔
    t ∈ hot ∧ (t ∈ labelledUpTo hot v m ∨ ∃ u ∈ labelledUpTo hot v m, Adjacent t u) := by
  simp only [mem_labelledUpTo, labelsAfter_succ, lowered_le_iff]
  grind

theorem labelledUpTo_subset (hot : List Nat) (v m : Nat) : labelledUpTo hot v m ⊆ labelledUpTo hot v (m + 1) :=
  fun _ h => mem_labelledUpTo_succ.2 ⟨(mem_labelledUpTo.1 h).1, .inl h⟩

/-- After as many rounds as there are tiles, a further round adds none. -/
theorem labelledUpTo_stable {hot : List Nat} {n : Nat} (h : hot.length ≤ n) (v : Nat) :
    labelledUpTo hot v (n + 1) = labelledUpTo hot v n := by
  have mono : Monotone fun m => (labelledUpTo hot v m).card :=
    monotone_nat_of_le_succ fun m => Finset.card_le_card (labelledUpTo_subset hot v m)
  have bounded (m : Nat) : (labelledUpTo hot v m).card ≤ n :=
    (Finset.card_filter_le _ _).trans ((List.toFinset_card_le _).trans h)
  have same {m : Nat} (hm : (labelledUpTo hot v m).card = (labelledUpTo hot v (m + 1)).card) :
      labelledUpTo hot v m = labelledUpTo hot v (m + 1) :=
    Finset.eq_of_subset_of_card_le (labelledUpTo_subset hot v m) hm.ge
  have stays (m : Nat) (hm : (labelledUpTo hot v m).card = (labelledUpTo hot v (m + 1)).card) :
      (labelledUpTo hot v (m + 1)).card = (labelledUpTo hot v (m + 2)).card := by
    congr 1
    ext t
    rw [mem_labelledUpTo_succ, mem_labelledUpTo_succ, same hm]
  exact (same ((Nat.stabilises_of_monotone mono bounded stays le_rfl).symm.trans
    (Nat.stabilises_of_monotone mono bounded stays (Nat.le_succ n)).symm)).symm

theorem labelsAfter_stable {hot : List Nat} {n : Nat} (h : hot.length ≤ n) {t : Nat} (ht : t ∈ hot) :
    labelsAfter hot (n + 1) t = labelsAfter hot n t := by
  have same (v : Nat) : labelsAfter hot (n + 1) t ≤ v ↔ labelsAfter hot n t ≤ v := by
    simpa [mem_labelledUpTo, ht] using Finset.ext_iff.1 (labelledUpTo_stable h v) t
  exact le_antisymm ((same _).2 le_rfl) ((same _).1 le_rfl)

/-- Tiles joined by a chain of hot tiles that share edges. -/
def Joined (hot : List Nat) : Nat → Nat → Prop := Relation.ReflTransGen fun a b => Adjacent a b ∧ b ∈ hot

/-- Labels that no round lowers: each is a hot tile joined to the tile that carries it and none above it, and tiles that
share an edge carry the same one. -/
structure Settled (hot : List Nat) (g : Nat → Nat) : Prop where
  low : ∀ t, g t ≤ t
  reached : ∀ t ∈ hot, g t ∈ hot ∧ Joined hot t (g t)
  level : ∀ t ∈ hot, ∀ u ∈ hot, Adjacent t u → g t = g u

theorem labelsAfter_low (hot : List Nat) (m t : Nat) : labelsAfter hot m t ≤ t := by
  induction m with
  | zero => exact le_rfl
  | succ m ih =>
    rw [labelsAfter_succ, lowered_le_iff]
    exact .inl ih

theorem labelsAfter_reached (hot : List Nat) (m : Nat) {t : Nat} (ht : t ∈ hot) :
    labelsAfter hot m t ∈ hot ∧ Joined hot t (labelsAfter hot m t) := by
  induction m generalizing t with
  | zero => exact ⟨ht, .refl⟩
  | succ m ih =>
    rw [labelsAfter_succ]
    rcases lowered_cases hot (labelsAfter hot m) t with own | ⟨u, hu, near, beside⟩
    · rw [own]
      exact ih ht
    · rw [beside]
      exact ⟨(ih hu).1, .head ⟨near, hu⟩ (ih hu).2⟩

/-- The labels of at most 192 hot tiles settle within the rounds of the model. -/
theorem settleLabels_settled {hot : List Nat} (few : hot.length ≤ 192) :
    ∃ g, settleLabels 192 (hot.map fun t => (t, t)) = tagged hot g ∧ Settled hot g := by
  obtain ⟨k, e, stop⟩ := settleLabels_tagged hot 192 0
  have fixed : ∀ t ∈ hot, labelsAfter hot (k + 1) t = labelsAfter hot k t := by
    rcases stop with fixed | rfl
    · intro t ht
      simpa using List.map_inj_left.1 fixed t ht
    · exact fun t => labelsAfter_stable (few.trans (by omega))
  have beside {t u : Nat} (ht : t ∈ hot) (hu : u ∈ hot) (near : Adjacent t u) :
      labelsAfter hot k t ≤ labelsAfter hot k u := by
    rw [← fixed t ht, labelsAfter_succ, lowered_le_iff]
    exact .inr ⟨u, hu, near, le_rfl⟩
  exact ⟨_, e, labelsAfter_low hot k, fun t => labelsAfter_reached hot k,
    fun t ht u hu near => le_antisymm (beside ht hu near) (beside hu ht near.symm)⟩

/-! ## The tiles of a region -/

/-- The tiles that carry a label. -/
def regionTiles (hot : List Nat) (g : Nat → Nat) (first : Nat) : List Nat := hot.filter fun t => g t == first

/-- The tiles that carry their own index. -/
def firsts (hot : List Nat) (g : Nat → Nat) : List Nat := hot.filter fun t => t == g t

theorem mem_regionTiles {hot : List Nat} {g : Nat → Nat} {first t : Nat} :
    t ∈ regionTiles hot g first ↔ t ∈ hot ∧ g t = first := by
  simp [regionTiles]

theorem mem_firsts {hot : List Nat} {g : Nat → Nat} {t : Nat} : t ∈ firsts hot g ↔ t ∈ hot ∧ g t = t := by
  rw [firsts, List.mem_filter, beq_iff_eq, eq_comm (a := t)]

section
variable {hot : List Nat} {g : Nat → Nat} (S : Settled hot g)
include S

/-- A chain from a hot tile stays in its region. -/
theorem Settled.chain {t u : Nat} (ht : t ∈ hot) (h : Joined hot t u) : u ∈ regionTiles hot g (g t) ∧
    Relation.ReflTransGen (fun a b => Adjacent a b ∧ a ∈ regionTiles hot g (g t) ∧ b ∈ regionTiles hot g (g t))
      t u := by
  induction h with
  | refl => exact ⟨mem_regionTiles.2 ⟨ht, rfl⟩, .refl⟩
  | tail _ step ih =>
    obtain ⟨inside, chain⟩ := ih
    obtain ⟨near, hot⟩ := step
    obtain ⟨ha, label⟩ := mem_regionTiles.1 inside
    have next := mem_regionTiles.2 ⟨hot, (S.level _ ha _ hot near).symm.trans label⟩
    exact ⟨next, chain.tail ⟨near, inside, next⟩⟩

theorem Settled.label_mem {t : Nat} (ht : t ∈ hot) : g t ∈ firsts hot g :=
  have ⟨here, chain⟩ := S.reached t ht
  mem_firsts.2 ⟨here, (mem_regionTiles.1 (S.chain ht chain).1).2⟩

/-- Any two tiles of a region are joined inside it. -/
theorem Settled.connected {first i j : Nat} (hi : i ∈ regionTiles hot g first) (hj : j ∈ regionTiles hot g first) :
    Relation.ReflTransGen (fun a b => Adjacent a b ∧ b ∈ regionTiles hot g first) i j := by
  obtain ⟨hotI, rfl⟩ := mem_regionTiles.1 hi
  obtain ⟨hotJ, same⟩ := mem_regionTiles.1 hj
  have there := (S.chain hotI (S.reached i hotI).2).2
  have back := (S.chain hotJ (S.reached j hotJ).2).2
  rw [same] at back
  refine .trans (Relation.ReflTransGen.mono (fun _ _ ⟨near, _, inside⟩ => ⟨near, inside⟩) _ _ there) ?_
  exact Relation.ReflTransGen.mono (fun _ _ ⟨near, inside, _⟩ => ⟨Adjacent.symm near, inside⟩) _ _
    (Relation.reflTransGen_swap.2 back)

/-- A hot tile beside a tile of a region is of that region. -/
theorem Settled.closed {first i j : Nat} (hi : i ∈ regionTiles hot g first) (hj : j ∈ hot) (near : Adjacent i j) :
    j ∈ regionTiles hot g first := by
  obtain ⟨hi, label⟩ := mem_regionTiles.1 hi
  exact mem_regionTiles.2 ⟨hj, (S.level i hi j hj near).symm.trans label⟩

/-- The regions part the hot tiles. -/
theorem Settled.partition (distinct : hot.Nodup) : ((firsts hot g).flatMap (regionTiles hot g)).Perm hot := by
  have apart : (firsts hot g).Pairwise (Function.onFun List.Disjoint (regionTiles hot g)) :=
    (distinct.filter _).imp fun ne => List.disjoint_left.2 fun t ha hb =>
      ne ((mem_regionTiles.1 ha).2.symm.trans (mem_regionTiles.1 hb).2)
  refine (List.perm_ext_iff_of_nodup (List.nodup_flatMap.2 ⟨fun _ _ => distinct.filter _, apart⟩) distinct).2 fun t => ?_
  rw [List.mem_flatMap]
  constructor
  · rintro ⟨_, -, ht⟩
    exact (mem_regionTiles.1 ht).1
  · exact fun ht => ⟨g t, S.label_mem ht, mem_regionTiles.2 ⟨ht, rfl⟩⟩

end

/-! ## Box and peak -/

section
variable {f : Nat → Nat} {l : List Nat}

theorem foldl_min_le (a : Nat) {t : Nat} (ht : t ∈ l) : l.foldl (fun m t => min m (f t)) a ≤ f t := by
  have h := (lowering_le_iff (fun _ => true) f l a (f t)).2 (.inr ⟨t, ht, rfl, le_rfl⟩)
  simpa using h

/-- The least of the values of a list that are at most the first one is one of them. -/
theorem foldl_min_attained {a t : Nat} (ht : t ∈ l) (h : ∀ t ∈ l, f t ≤ a) :
    ∃ t ∈ l, f t = l.foldl (fun m t => min m (f t)) a := by
  have least := (lowering_le_iff (fun _ => true) f l a (l.foldl (fun m t => min m (f t)) a)).1 (by simp)
  rcases least with top | ⟨u, hu, -, low⟩
  · exact ⟨t, ht, le_antisymm ((h t ht).trans top) (foldl_min_le a ht)⟩
  · exact ⟨u, hu, le_antisymm low (foldl_min_le a hu)⟩

theorem foldl_max_le_iff (f : Nat → Nat) (l : List Nat) (a v : Nat) :
    l.foldl (fun m t => max m (f t)) a ≤ v ↔ a ≤ v ∧ ∀ t ∈ l, f t ≤ v := by
  induction l generalizing a with
  | nil => simp
  | cons b l ih => rw [List.foldl_cons, ih, max_le_iff, List.forall_mem_cons, and_assoc]

theorem le_foldl_max (a : Nat) {t : Nat} (ht : t ∈ l) : f t ≤ l.foldl (fun m t => max m (f t)) a :=
  ((foldl_max_le_iff f l a _).1 le_rfl).2 t ht

/-- The greatest of the values of a list is one of them. -/
theorem foldl_max_attained {t : Nat} (ht : t ∈ l) : ∃ t ∈ l, f t = l.foldl (fun m t => max m (f t)) 0 := by
  by_contra none
  have below : ∀ u ∈ l, f u < l.foldl (fun m t => max m (f t)) 0 := fun u hu =>
    (le_foldl_max 0 hu).lt_of_ne fun same => none ⟨u, hu, same⟩
  have lower := (foldl_max_le_iff f l 0 (l.foldl (fun m t => max m (f t)) 0 - 1)).2
    ⟨Nat.zero_le _, fun u hu => Nat.le_sub_one_of_lt (below u hu)⟩
  have := below t ht
  omega

end

/-- The box of tiles of the grid holds each of them, and one at each of its edges. -/
theorem boundingBox_spec {l : List Nat} (grid : ∀ t ∈ l, t < 192) {first : Nat} (hf : first ∈ l) :
    (∀ i ∈ l, insideBox i (boundingBox l) = true) ∧
      (∃ i ∈ l, i % 16 = (boundingBox l).column0) ∧ (∃ i ∈ l, i % 16 = (boundingBox l).column1) ∧
      (∃ i ∈ l, i / 16 = (boundingBox l).row0) ∧ (∃ i ∈ l, i / 16 = (boundingBox l).row1) :=
  ⟨fun _ hi => insideBox_iff.2 ⟨foldl_min_le (f := tileColumn) 15 hi, le_foldl_max (f := tileColumn) 0 hi,
      foldl_min_le (f := tileRow) 11 hi, le_foldl_max (f := tileRow) 0 hi⟩,
    foldl_min_attained (f := tileColumn) hf fun t _ => by unfold tileColumn; omega,
    foldl_max_attained (f := tileColumn) hf,
    foldl_min_attained (f := tileRow) hf fun t ht => by have := grid t ht; unfold tileRow; omega,
    foldl_max_attained (f := tileRow) hf⟩

/-! ## The regions formed -/

/-- The region of a list of tiles. -/
def madeRegion (c : Completed) (tiles : List Nat) (first : Nat) : Region :=
  { box := boundingBox tiles, peak := tiles.foldl (fun m t => max m (tilePeak c t)) 0, tiles := tiles, first := first,
    matched := none }

theorem regionOf_tagged (c : Completed) (hot : List Nat) (g : Nat → Nat) (first : Nat) :
    regionOf c (tagged hot g) first = madeRegion c (regionTiles hot g first) first := by
  have tiles : ((tagged hot g).filter fun (_, l) => l == first).map Prod.fst = regionTiles hot g first := by
    rw [tagged, List.filter_map, List.map_map]
    exact List.map_id _
  unfold regionOf
  dsimp only
  rw [tiles]
  rfl

/-- The regions are those of the tiles that carry their own index, in region order. -/
theorem formRegions_eq (c : Completed) {hot : List Nat} {g : Nat → Nat}
    (settled : settleLabels 192 (hot.map fun t => (t, t)) = tagged hot g) : formRegions c hot =
      sortBy regionBefore ((firsts hot g).map fun first => madeRegion c (regionTiles hot g first) first) := by
  have own : ((tagged hot g).filter fun (t, l) => t == l).map Prod.fst = firsts hot g := by
    rw [tagged, List.filter_map, List.map_map]
    exact List.map_id _
  unfold formRegions
  dsimp only
  rw [settled, own]
  exact congrArg _ (List.map_congr_left fun first _ => regionOf_tagged c hot g first)

theorem mem_hotTiles {minHot : Nat} {c : Completed} {i : Nat} : i ∈ hotTiles minHot c ↔
    i < 192 ∧ ∃ u, c.tiles[i]? = some u ∧ minHot ≤ u.hot ∧ c.glareLevel ≤ u.peak := by
  simp [hotTiles, hotTile, Option.any_eq_true]

theorem hotTiles_distinct (minHot : Nat) (c : Completed) : (hotTiles minHot c).Nodup :=
  List.nodup_range.filter _

theorem hotTiles_few (minHot : Nat) (c : Completed) : (hotTiles minHot c).length ≤ 192 :=
  (List.length_filter_le _ _).trans (by rw [List.length_range])

section
variable {c : Completed} {hot : List Nat} {g : Nat → Nat}

theorem regions_perm (settled : settleLabels 192 (hot.map fun t => (t, t)) = tagged hot g) :
    (formRegions c hot).Perm ((firsts hot g).map fun first => madeRegion c (regionTiles hot g first) first) := by
  rw [formRegions_eq c settled]
  exact sortBy_perm _ _

theorem regions_partition (S : Settled hot g) (settled : settleLabels 192 (hot.map fun t => (t, t)) = tagged hot g)
    (distinct : hot.Nodup) : ((formRegions c hot).flatMap Region.tiles).Perm hot := by
  refine ((regions_perm settled).flatMap_right _).trans ?_
  rw [List.flatMap_map]
  exact S.partition distinct

/-- Region order is strict, as no two regions begin at one tile. -/
theorem regions_sorted (settled : settleLabels 192 (hot.map fun t => (t, t)) = tagged hot g) (distinct : hot.Nodup) :
    (formRegions c hot).Pairwise fun a b => b.peak < a.peak ∨ (a.peak = b.peak ∧ a.first < b.first) := by
  have apart : ((formRegions c hot).map Region.first).Nodup := by
    rw [((regions_perm settled).map _).nodup_iff, List.map_map]
    exact (List.map_id (firsts hot g)).symm ▸ distinct.filter _
  have order : (formRegions c hot).Pairwise fun a b => regionBefore b a = false := by
    rw [formRegions_eq c settled]
    exact ranking_regionBefore.sorted _
  refine (order.and (List.pairwise_map.1 apart)).imp ?_
  rintro a b ⟨order, ne⟩
  rw [regionBefore_not_iff] at order
  omega

theorem mem_formRegions (settled : settleLabels 192 (hot.map fun t => (t, t)) = tagged hot g) {r : Region}
    (hr : r ∈ formRegions c hot) : ∃ first, (first ∈ hot ∧ g first = first) ∧
      r = madeRegion c (regionTiles hot g first) first := by
  rw [(regions_perm settled).mem_iff] at hr
  obtain ⟨first, hf, rfl⟩ := List.mem_map.1 hr
  exact ⟨first, mem_firsts.1 hf, rfl⟩

end

/-- What is said of the regions of a completion. -/
theorem regions_spec (minHot : Nat) (c : Completed) :
    let hot := hotTiles minHot c
    ((formRegions c hot).flatMap Region.tiles).Perm hot ∧
      (formRegions c hot).Pairwise (fun a b => b.peak < a.peak ∨ (a.peak = b.peak ∧ a.first < b.first)) ∧
      ∀ r ∈ formRegions c hot, r.matched = none ∧ r.first ∈ r.tiles ∧
        (∀ i ∈ r.tiles, r.first ≤ i ∧ tilePeak c i ≤ r.peak ∧ insideBox i r.box = true ∧
          (∀ j ∈ hot, Adjacent i j → j ∈ r.tiles) ∧
          ∀ j ∈ r.tiles, Relation.ReflTransGen (fun a b => Adjacent a b ∧ b ∈ r.tiles) i j) ∧
        (∃ i ∈ r.tiles, tilePeak c i = r.peak) ∧
        (∃ i ∈ r.tiles, i % 16 = r.box.column0) ∧ (∃ i ∈ r.tiles, i % 16 = r.box.column1) ∧
        (∃ i ∈ r.tiles, i / 16 = r.box.row0) ∧ (∃ i ∈ r.tiles, i / 16 = r.box.row1) := by
  intro hot
  obtain ⟨g, settled, S⟩ := settleLabels_settled (hotTiles_few minHot c)
  have distinct := hotTiles_distinct minHot c
  refine ⟨regions_partition S settled distinct, regions_sorted settled distinct, fun r hr => ?_⟩
  obtain ⟨first, own, rfl⟩ := mem_formRegions settled hr
  have here : first ∈ regionTiles hot g first := mem_regionTiles.2 own
  have grid : ∀ t ∈ regionTiles hot g first, t < 192 := fun t ht => (mem_hotTiles.1 (mem_regionTiles.1 ht).1).1
  obtain ⟨inside, edges⟩ := boundingBox_spec grid here
  refine ⟨rfl, here, fun i hi => ⟨(mem_regionTiles.1 hi).2 ▸ S.low i, le_foldl_max (f := tilePeak c) 0 hi, inside i hi,
    fun j hj => S.closed hi hj, fun j hj => S.connected hi hj⟩, foldl_max_attained (f := tilePeak c) here, edges⟩

/-! ## The event -/

/-- The denials of a walk are the entries that are DENIED after it. -/
theorem length_denied {table : List GlareEntry} (distinct : (table.map GlareEntry.ident).Nodup) (main wide : Window)
    (cap : Nat) : ((grantWalk main wide cap table).outcomes.filter fun o => o.2 == .denied).length =
      ((applyGrants (grantWalk main wide cap table) table).filter fun e => e.grant == .denied).length := by
  have W := grantWalk_walked distinct main wide cap
  generalize hw : grantWalk main wide cap table = a at W
  have walked : (a.outcomes.filter fun o => o.2 == .denied).length =
      ((walkOrder table).filter fun e => given a.outcomes e.ident == .denied).length := by
    conv_lhs => rw [W.outcomes]
    rw [List.filter_map, List.length_map]
    rfl
  have confirmed : ∀ e ∈ table, (given a.outcomes e.ident == .denied && e.state == .confirmed) =
      (given a.outcomes e.ident == .denied) := fun e he => by
    by_cases hs : e.state = .confirmed
    · simp [hs]
    · rw [← hw, given_unconfirmed distinct main wide cap he hs]
      rfl
  rw [walked, ((walkOrder_perm table).filter _).length_eq, List.filter_filter, List.filter_congr confirmed,
    applyGrants_eq, List.filter_map, List.length_map]
  rfl

/-- The greatest peak of a list of entries. -/
theorem foldl_peaks (l : List GlareEntry) : l.foldl
    (fun best e => some (match best with | none => e.peak | some p => max p e.peak)) none =
      (l.map GlareEntry.peak).max? := by
  have from_some (m : Nat) (l : List GlareEntry) : l.foldl
      (fun best e => some (match best with | none => e.peak | some p => max p e.peak)) (some m) =
        some ((l.map GlareEntry.peak).foldl max m) := by
    induction l generalizing m with
    | nil => rfl
    | cons e l ih => exact ih _
  cases l with
  | nil => rfl
  | cons e l => exact from_some e.peak l

theorem glarePeaks_getElem? (table : List GlareEntry) {i : Nat} (hi : i < 192) : (glarePeaks table)[i]? =
    some ((table.filter fun e => e.grant == .granted && insideBox i e.box).map GlareEntry.peak).max? := by
  unfold glarePeaks
  rw [List.getElem?_map, List.getElem?_range hi, Option.map_some]
  exact congrArg some (foldl_peaks _)

/-- The gain of a tile after the ramps of a publication. -/
theorem rampGains_getElem? (g : GlareSettings) (table : List GlareEntry) {gains : List Nat} (h : gains.length = 192)
    {i : Nat} (hi : i < 192) : (rampGains g (glarePeaks table) gains)[i]? = some (rampGain g (gains.getD i 0)
      (targetGain g ((table.filter fun e => e.grant == .granted && insideBox i e.box).map GlareEntry.peak).max?)) := by
  have old : gains[i]? = some (gains.getD i 0) := by
    rw [List.getD_eq_getElem?_getD, List.getElem?_eq_getElem (h ▸ hi), Option.getD_some]
  unfold rampGains
  rw [List.getElem?_zipWith, old, glarePeaks_getElem? table hi]

/-- A side after the Glare Tracker has taken a completion. -/
def glareTakenSide (c : Completed) (rest : List Completed) (d : SideState) : SideState :=
  let d := { d with glare := { d.glare with waiting := rest } }
  match d.exposure.night with
  | .day => { d with glare := { d.glare with regions := [], formed := 0, kept := 0 } }
  | .night => trackSide c d

theorem exec_glareCompletionTaken {x : Side} {c : Completed} {rest : List Completed} {s : State}
    (hp : s.powered = true) (hw : (s.side x).glare.waiting = c :: rest) :
    exec (.glareCompletionTaken x) s = .next (s.within x (glareTakenSide c rest (s.side x)) [] []) := by
  refine (event_powered hp _).trans (congrArg _ ?_)
  unfold takeGlare
  rw [beginEvent_within s x, within_side, hw]
  exact within_onSide ..

/-- The table after a completion in NIGHT. -/
def trackedTable (c : Completed) (d : SideState) : List GlareEntry :=
  applyGrants (walkAfter c d.geometry.mainInForce d.geometry.wideInForce d.glare) (createdFrom c d.glare).table

/-- The map after a completion in NIGHT. -/
def trackedGain (c : Completed) (d : SideState) : GainMap :=
  if d.sup.view = .normal then
    publish (rampGains d.glare.settings (glarePeaks (trackedTable c d)) d.gain.gains) d.gain
  else publish unityGains d.gain

/-- What a completion does to a side in NIGHT. -/
theorem glareTakenSide_night {c : Completed} {rest : List Completed} {d : SideState}
    (sound : TableSound d.glare.table d.glare.counter) (night : d.exposure.night = .night) :
    let formed := (formRegions c (hotTiles d.glare.settings.minHot c)).length
    glareTakenSide c rest d = { d with
      glare := { d.glare with
        table := trackedTable c d, counter := (createdFrom c d.glare).counter,
        regions := (createdFrom c d.glare).regions, formed := formed, kept := min 12 formed, waiting := rest },
      gain := trackedGain c d,
      counters := { d.counters with
        regionsOverflowed :=
          satAdd d.counters.regionsOverflowed (formed - min 12 formed + (createdFrom c d.glare).untracked),
        grantsDenied :=
          satAdd d.counters.grantsDenied ((trackedTable c d).filter fun e => e.grant == .denied).length } } := by
  have denied : ((walkAfter c d.geometry.mainInForce d.geometry.wideInForce d.glare).outcomes.filter
      fun o => o.2 == .denied).length = ((trackedTable c d).filter fun e => e.grant == .denied).length :=
    length_denied (createdFrom_sound sound c).distinct ..
  rw [← denied]
  unfold glareTakenSide trackSide publishHanding trackedGain
  dsimp only
  rw [night, track_eq]
  dsimp only
  simp only [and_true]
  rfl

theorem trackedGain_version (c : Completed) (d : SideState) : (trackedGain c d).version = d.gain.version + 1 := by
  unfold trackedGain
  split <;> rfl

theorem trackedGain_of_other {c : Completed} {d : SideState} (other : d.sup.view ≠ .normal) :
    (trackedGain c d).gains = unityGains :=
  congrArg GainMap.gains (if_neg other)

theorem trackedGain_of_normal {c : Completed} {d : SideState} (normal : d.sup.view = .normal) :
    (trackedGain c d).gains = rampGains d.glare.settings (glarePeaks (trackedTable c d)) d.gain.gains :=
  congrArg GainMap.gains (if_pos normal)

/-- Only a CONFIRMED entry of the table holds a grant. -/
theorem confirmed_of_granted {c : Completed} {d : SideState} (sound : TableSound d.glare.table d.glare.counter) :
    ∀ e ∈ trackedTable c d, e.grant ≠ .none → e.state = .confirmed := by
  intro e he held
  rw [trackedTable, applyGrants_eq] at he
  obtain ⟨f, hf, rfl⟩ := List.mem_map.1 he
  by_contra other
  exact held (given_unconfirmed (createdFrom_sound sound c).distinct _ _ _ hf other)

/-- Settles O36: what a completion taken does in DAY and in NIGHT, by the equations of the tracker, and what the regions
formed are, by the labels they settle at. -/
theorem glareCompletionTracksInNightOnly : Obligations.GlareCompletionTracksInNightOnly := by
  refine ⟨fun x c rest s hp laws hw => ?_, fun _ _ _ => mem_hotTiles, regions_spec⟩
  obtain ⟨few, distinct, range, counter, -⟩ := laws x
  have sound : TableSound (s.side x).glare.table (s.side x).glare.counter := ⟨few, distinct, range, counter⟩
  refine ⟨_, exec_glareCompletionTaken hp hw, oneSide_within .., within_reports .., rfl, rfl, ?_⟩
  rw [within_side]
  dsimp only
  refine ⟨fun day => ?_, fun night => ?_⟩
  · unfold glareTakenSide
    dsimp only
    rw [day]
  · rw [glareTakenSide_night sound night]
    refine ⟨rfl, rfl, rfl, confirmed_of_granted sound, trackedGain_version .., trackedGain_of_other,
      fun normal len i hi => ?_⟩
    dsimp only
    rw [trackedGain_of_normal normal, rampGains_getElem? _ _ len hi]
    rfl

end Sys2Proof.Machine

/-! # The requests that read (O19)

Each is its owning rule on the state with the frame counted; a rule that changes nothing leaves `answered`. -/

namespace Sys2Proof.Machine

theorem uField_byte (b : Byte) (rest : List Byte) : uField (b :: rest) 0 1 = b.toNat := by
  simp [uField, field, unLe]

theorem uField_second_byte (a b : Byte) : uField [a, b] 1 1 = b.toNat := by
  simp [uField, field, unLe]

theorem byte_eq_one_iff (b : Byte) : b.toNat = 1 ↔ b = 1 :=
  ⟨fun h => BitVec.eq_of_toNat_eq h, fun h => h ▸ rfl⟩

theorem exec_status {s : State} (tag : Byte) (h : Answerable .status [] s) :
    exec (.status tag []) s = .next (answered .status tag 0 .ok (statusBytes s) s) :=
  exec_request_unchanged (k := .status) tag h rfl

theorem exec_identify {s : State} (tag : Byte) (h : Answerable .identify [] s) :
    exec (.identify tag []) s = .next (answered .identify tag 0 .ok (identifyBytes (requestTaken 0 s)) s) :=
  exec_request_unchanged (k := .identify) tag h rfl

/-! ## READ_GLARE (R72) -/

theorem exec_readGlare_bad {s : State} {code : Byte} (tag : Byte) (h : Answerable .readGlare [code] s)
    (hc : 2 ≤ code.toNat) :
    exec (.readGlare tag [code]) s = .next (answered .readGlare tag 1 .badValue [] s) := by
  refine exec_request_unchanged (k := .readGlare) tag h ?_
  simp only [ownerOf, ownReadGlare, uField_byte, oneSide_none hc]
  rfl

theorem exec_readGlare_side {s : State} {code : Byte} {x : Side} (tag : Byte) (h : Answerable .readGlare [code] s)
    (hc : code.toNat = sideCode x) :
    exec (.readGlare tag [code]) s = .next (answered .readGlare tag 1 .ok (readGlareBytes (s.side x)) s) := by
  refine exec_request_unchanged (k := .readGlare) tag h ?_
  simp only [ownerOf, ownReadGlare, uField_byte, hc, oneSide_sideCode]
  cases x <;> rfl

/-! ## FETCH_REPORTS and READ_HEALTH (R160, R166) -/

theorem exec_fetchReports {s : State} {n : Byte} (tag : Byte) (h : Answerable .fetchReports [n] s) :
    exec (.fetchReports tag [n]) s = .next { answered .fetchReports tag 1 (okOrClamped (8 < n.toNat))
      (fetchBytes (min 8 n.toNat) s.reports) s with reports := fetched (min 8 n.toNat) s.reports } := by
  refine exec_request_of_answer (k := .fetchReports)
    (t := { requestTaken 1 s with reports := fetched (min 8 n.toNat) s.reports }) tag h ?_
  simp only [ownerOf, ownFetchReports, uField_byte]
  rfl

/-- The payload of FETCH_REPORTS, with the number left counted from the queue as it was. -/
theorem fetchBytes_eq (n : Nat) (q : Reports) : fetchBytes n q =
    le 1 (q.records.take n).length ++ (q.records.take n).flatMap recordBytes ++ le 1 (q.records.length - n) ++
      le 1 q.missed := by
  rw [← List.length_drop]
  rfl

theorem exec_readHealth {s : State} (tag : Byte) (h : Answerable .readHealth [] s) :
    exec (.readHealth tag []) s = .next { answered .readHealth tag 0 .ok (healthBytes s.health) s with
      health := healthRead s.health } :=
  exec_request_of_answer (k := .readHealth) (t := { requestTaken 0 s with health := healthRead s.health }) tag h rfl

/-! ## READ_COUNTERS (R169) -/

section
variable {s : State} {side clear : Byte}

theorem exec_readCounters_bad (tag : Byte) (h : Answerable .readCounters [side, clear] s)
    (hc : 2 < side.toNat ∨ 1 < clear.toNat) :
    exec (.readCounters tag [side, clear]) s = .next (answered .readCounters tag 2 .badValue [] s) := by
  refine exec_request_unchanged (k := .readCounters) tag h ?_
  simp only [ownerOf, ownReadCounters, uField_byte, uField_second_byte]
  obtain hs | hf := hc
  · rw [namedSides_none hs]
    rfl
  · rw [decide_eq_false (Nat.not_le.2 hf)]
    cases namedSides side.toNat <;> rfl

/-- The counters of the sides that a code names. -/
theorem flatMap_namedList (n : Nat) (f : Side → List Byte) : (namedList n).flatMap f =
    (if names n .left then f .left else []) ++ (if names n .right then f .right else []) := by
  unfold namedList
  cases names n .left <;> cases names n .right <;> simp

theorem exec_readCounters (tag : Byte) (h : Answerable .readCounters [side, clear] s) (hs : side.toNat ≤ 2)
    (hf : clear.toNat ≤ 1) : exec (.readCounters tag [side, clear]) s =
      .next { answered .readCounters tag 2 .ok
        ((if names side.toNat .left then counterBytes s.left.counters else []) ++
          (if names side.toNat .right then counterBytes s.right.counters else [])) s with
        left := if names side.toNat .left ∧ clear = 1 then { s.left with counters := zeroCounters } else s.left,
        right := if names side.toNat .right ∧ clear = 1 then { s.right with counters := zeroCounters }
          else s.right } := by
  have answer : ownerOf .readCounters tag [side, clear] (requestTaken 2 s) =
      answerWith (if clear = 1 then (namedList side.toNat).foldl clearCounters (requestTaken 2 s)
        else requestTaken 2 s) .ok ((namedList side.toNat).flatMap fun x => counterBytes (s.side x).counters) := by
    simp only [ownerOf, ownReadCounters, uField_byte, uField_second_byte, namedSides_eq hs, decide_eq_true hf,
      byte_eq_one_iff]
    rfl
  rw [flatMap_namedList] at answer
  refine (exec_request_of_answer (k := .readCounters) tag h answer).trans (congrArg _ ?_)
  by_cases flag : clear = 1
  · simp only [flag, and_true]
    rw [show clearCounters = fun u x => u.onSide x fun d => { d with counters := zeroCounters } from rfl,
      foldl_onSide_named hs]
    rfl
  · simp only [flag, and_false, if_false]
    rfl

end

/-- Settles O19, request by request. -/
theorem readRequestsReturnWhatIsHeld : Obligations.ReadRequestsReturnWhatIsHeld := by
  intro tag s
  refine ⟨fun h => ?_, exec_identify tag, fun code h => ⟨exec_readGlare_bad tag h, fun x => exec_readGlare_side tag h⟩,
    fun n h => ?_, exec_readHealth tag, fun side clear h => ⟨exec_readCounters_bad tag h, exec_readCounters tag h⟩⟩
  · have taken := exec_status tag h
    simp only [statusBytes, sideStatusBytes, ← List.append_assoc] at taken
    exact taken
  · have taken := exec_fetchReports tag h
    simp only [fetchBytes_eq, okOrClamped, decide_eq_true_eq] at taken
    exact taken

end Sys2Proof.Machine

/-! # Clamped windows (O59)

Each of the three steps of R95 acts in one direction at a time, so their facts are stated for an interval: its size, its
origin, and both rounded down to even. -/

namespace Sys2Proof.Machine

-- One proof at a time: elaborated in parallel, they take the whole text past the memory it is compiled in.
set_option Elab.async false

section
variable {low limit size : Nat} {origin : Int}

/-! ## One direction of a window -/

theorem clampSize_range (size : Nat) (h : 2 ≤ limit) : 2 ≤ clampSize limit size ∧ clampSize limit size ≤ limit :=
  ⟨le_max_left _ _, max_le h (min_le_right _ _)⟩

theorem clampSize_self (h2 : 2 ≤ size) (h : size ≤ limit) : clampSize limit size = size := by
  rw [clampSize, min_eq_left h, max_eq_right h2]

/-- A clamped origin lies inside. -/
theorem clampOrigin_inside (origin : Int) (h : size ≤ limit) : (low : Int) ≤ clampOrigin low limit origin size ∧
    clampOrigin low limit origin size + size ≤ low + limit := by
  unfold clampOrigin
  split
  · omega
  · split <;> omega

/-- No origin inside is nearer than the clamped one. -/
theorem clampOrigin_nearest {inner : Int} (h1 : low ≤ inner) (h2 : inner + size ≤ low + limit) :
    (clampOrigin low limit origin size - origin).natAbs ≤ (inner - origin).natAbs := by
  unfold clampOrigin
  split
  · omega
  · split <;> omega

theorem clampOrigin_self (h1 : low ≤ origin) (h2 : origin + size ≤ low + limit) :
    clampOrigin low limit origin size = origin := by
  rw [clampOrigin, if_neg (not_lt.2 h1), if_neg (not_lt.2 h2)]

theorem evenDown_self {n : Nat} (h : n % 2 = 0) : evenDown n = n := by rw [evenDown, h, Nat.sub_zero]

theorem evenDown_toNat {v : Int} (h : 0 ≤ v) : (evenDown v.toNat : Int) = v - v % 2 := by
  unfold evenDown
  omega

/-- The limit of a size is even, so a size that the limit changed is not reached again by rounding. -/
theorem evenSize_eq_iff (h2 : 2 ≤ limit) (even : limit % 2 = 0) : evenDown (clampSize limit size) = size ↔
    clampSize limit size = size ∧ clampSize limit size % 2 = 0 := by
  unfold evenDown clampSize
  omega

/-- Rounding down goes away from an origin that was moved down, and leaves the even lower bound as it is. -/
theorem evenOrigin_eq_iff (even : low % 2 = 0) :
    clampOrigin low limit origin size - clampOrigin low limit origin size % 2 = origin ↔
      clampOrigin low limit origin size = origin ∧ clampOrigin low limit origin size % 2 = 0 := by
  unfold clampOrigin
  split
  · omega
  · split <;> omega

end

/-! ## Whole windows -/

/-- A valid window inside the bounds is kept. -/
theorem clampWindow_self {b u : Window} (hu : validWindow u = true) (hi : inside b u = true) : clampWindow b u = u := by
  obtain ⟨⟨ex, ey, ew, eh⟩, w2, h2, -, -⟩ := (validWindow_iff u).1 hu
  obtain ⟨x1, x2, y1, y2⟩ := (inside_iff b u).1 hi
  have width : clampSize b.w u.w = u.w := clampSize_self w2 (by omega)
  have height : clampSize b.h u.h = u.h := clampSize_self h2 (by omega)
  have left : clampOrigin b.x b.w u.x u.w = u.x := clampOrigin_self (by omega) (by omega)
  have top : clampOrigin b.y b.h u.y u.h = u.y := clampOrigin_self (by omega) (by omega)
  simp only [clampWindow, clampAt, width, height, left, top, Int.toNat_natCast, evenDown_self ex, evenDown_self ey,
    evenDown_self ew, evenDown_self eh]

/-- A window clamped into valid bounds keeps all four values exactly if no step changes one. -/
theorem clampAt_ne_iff {b : Window} (hb : validWindow b = true) (x y : Int) (w h : Nat) :
    (((clampAt b x y w h).x : Int) ≠ x ∨ ((clampAt b x y w h).y : Int) ≠ y ∨ (clampAt b x y w h).w ≠ w ∨
      (clampAt b x y w h).h ≠ h) ↔
    (clampSize b.w w ≠ w ∨ clampSize b.h h ≠ h ∨ clampOrigin b.x b.w x (clampSize b.w w) ≠ x ∨
      clampOrigin b.y b.h y (clampSize b.h h) ≠ y ∨ clampOrigin b.x b.w x (clampSize b.w w) % 2 ≠ 0 ∨
      clampOrigin b.y b.h y (clampSize b.h h) % 2 ≠ 0 ∨ clampSize b.w w % 2 ≠ 0 ∨ clampSize b.h h % 2 ≠ 0) := by
  obtain ⟨⟨bx, bY, bw, bh⟩, bw2, bh2, -, -⟩ := (validWindow_iff b).1 hb
  have left := (clampOrigin_inside (low := b.x) x (clampSize_range w bw2).2).1
  have top := (clampOrigin_inside (low := b.y) y (clampSize_range h bh2).2).1
  simp only [clampAt, ne_eq, evenDown_toNat ((Int.natCast_nonneg _).trans left),
    evenDown_toNat ((Int.natCast_nonneg _).trans top), evenOrigin_eq_iff bx, evenOrigin_eq_iff bY,
    evenSize_eq_iff bw2 bw, evenSize_eq_iff bh2 bh, not_and_or]
  exact iff_of_eq (by ac_rfl)

/-- Settles O59, in the two directions of the window. -/
theorem clampedWindowsAreValidInsideAndNearest : Obligations.ClampedWindowsAreValidInsideAndNearest := by
  intro b x y w h hb
  obtain ⟨-, bw2, bh2, -, -⟩ := (validWindow_iff b).1 hb
  obtain ⟨x1, x2⟩ := clampOrigin_inside (low := b.x) x (clampSize_range w bw2).2
  obtain ⟨y1, y2⟩ := clampOrigin_inside (low := b.y) y (clampSize_range h bh2).2
  obtain ⟨valid, within⟩ := clampAt_sound hb x y w h
  exact ⟨⟨x1, x2, y1, y2⟩, fun _ => clampOrigin_nearest, fun _ => clampOrigin_nearest,
    ⟨evenDown_toNat ((Int.natCast_nonneg _).trans x1), evenDown_toNat ((Int.natCast_nonneg _).trans y1), rfl, rfl⟩,
    valid, within, (clampAt_ne_iff hb x y w h).symm, fun u hu hi => clampWindow_self hu hi⟩

end Sys2Proof.Machine

/-! # The view requests (O50)

ADJUST_VIEW moves one base window; INSPECT and END_INSPECT change the override list, which under the window law is a
change and a resolution whether or not the list changed. -/

namespace Sys2Proof.Machine

-- One proof at a time: elaborated in parallel, they take the whole text past the memory it is compiled in.
set_option Elab.async false

section
variable {x : Side} {p : List Byte} {s : State}

/-! ## ADJUST_VIEW (R97) -/

theorem ownAdjustView_bad (h : 1 < uField p 0 1 ∨ 1 < uField p 1 1) : ownAdjustView p s = answer s .badValue := by
  unfold ownAdjustView
  obtain h | h := h
  · rw [oneSide_none h]
  · rw [decide_eq_false (Nat.not_le.2 h)]
    cases oneSide (uField p 0 1) <;> rfl

/-- A window answers CLAMPED exactly if it is not the one asked for. -/
theorem okOrClamped_window {a a' b b' : Int} {c c' d d' : Nat} :
    okOrClamped (a != a' || b != b' || c != c' || d != d') =
      if (a, b, c, d) = (a', b', c', d') then .ok else .clamped := by
  rw [← okOrClamped_bne]
  refine congrArg okOrClamped (Bool.eq_iff_iff.2 ?_)
  simp only [Bool.or_eq_true, bne_iff_ne, ne_eq, Prod.mk.injEq, not_and_or, or_assoc]

/-- ADJUST_VIEW with codes that name a base window. -/
theorem ownAdjustView_base {wide : Bool} (hx : uField p 0 1 = sideCode x)
    (hw : uField p 1 1 = if wide then 1 else 0) :
    ownAdjustView p s =
      let w := baseWindow wide (s.side x).geometry
      let v := adjusted (s.side x).geometry.bounds w (sField p 2) (sField p 4)
      answerWith (s.setSide x { s.side x with geometry := setBase x wide v (s.side x).geometry })
        (if ((v.x : Int), (v.y : Int), v.w, v.h) = (w.x + sField p 2, w.y + sField p 4, w.w, w.h) then .ok
          else .clamped) (windowBytes v) := by
  have base : (uField p 1 1 == 1) = wide := by rw [hw]; cases wide <;> rfl
  have named : decide (uField p 1 1 ≤ 1) = true := by rw [hw]; cases wide <;> rfl
  unfold ownAdjustView
  rw [hx, oneSide_sideCode, named]
  simp only [base, okOrClamped_window]
  rfl

/-! ## INSPECT (R103) -/

/-- The code of a preset (R103). -/
def presetCode : Preset → Nat
  | .curb => 0
  | .axle => 1

theorem presetOfCode_presetCode (preset : Preset) : presetOfCode (presetCode preset) = some preset := by
  cases preset <;> rfl

theorem presetOfCode_none {n : Nat} (h : 1 < n) : presetOfCode n = none := by
  match n, h with
  | n + 2, _ => rfl

theorem ownInspect_bad (h : 1 < uField p 0 1 ∨ 1 < uField p 1 1) : ownInspect p s = answer s .badValue := by
  unfold ownInspect
  obtain h | h := h
  · rw [oneSide_none h]
  · rw [presetOfCode_none h]
    cases oneSide (uField p 0 1) <;> rfl

/-- INSPECT with codes that name a side and a preset. -/
theorem ownInspect_preset {preset : Preset} (hx : uField p 0 1 = sideCode x) (hp : uField p 1 1 = presetCode preset) :
    ownInspect p s =
      if (s.side x).sup.view = .off then answer s .refusedState
      else answer (inspectSide x preset (clampNat 1 60 (uField p 2 1)) s)
        (okOrClamped (clampNat 1 60 (uField p 2 1) != uField p 2 1)) := by
  unfold ownInspect
  rw [hx, hp, oneSide_sideCode, presetOfCode_presetCode]

/-- A sound geometry with other overrides. -/
theorem setOverrides_sound {g : Geometry} (h : geometrySound x g) (o : Overrides) :
    setOverrides x o g = resolve x { g with overrides := o } :=
  have ⟨_, main, wide⟩ := (geometrySound_iff x g).1 h
  setOverrides_eq o main wide

/-- A side with its INSPECT entry and the timer of the entry as given, and the windows in force resolved. -/
def SideState.withInspect (x : Side) (inspect : Option Preset) (timer : Timer) (d : SideState) : SideState :=
  let o := { d.geometry.overrides with inspect := inspect }
  { d with geometry := { resolve x { d.geometry with overrides := o } with inspectTimer := timer } }

theorem onSide_inspect (h : geometrySound x (s.side x).geometry) (inspect : Option Preset) (timer : Timer) :
    (s.onSide x fun d => { d with geometry :=
      { setOverrides x { d.geometry.overrides with inspect := inspect } d.geometry with inspectTimer := timer } }) =
      s.setSide x ((s.side x).withInspect x inspect timer) := by
  unfold State.onSide SideState.withInspect
  dsimp only
  rw [setOverrides_sound h]

theorem inspectSide_eq (h : geometrySound x (s.side x).geometry) (preset : Preset) (seconds : Nat) :
    inspectSide x preset seconds s =
      s.setSide x ((s.side x).withInspect x (some preset) (some (after s.now (seconds * 1000000)))) :=
  onSide_inspect h _ _

theorem inspectExpired_eq (h : geometrySound x (s.side x).geometry) :
    inspectExpired x s = s.setSide x ((s.side x).withInspect x none none) :=
  onSide_inspect h _ _

/-! ## END_INSPECT and the INSPECT timer (R104) -/

/-- A side after END_INSPECT named it. -/
def SideState.inspectEnded (x : Side) (d : SideState) : SideState :=
  if d.geometry.overrides.inspect.isSome then d.withInspect x none none else d

theorem endInspectSide_eq (h : geometrySound x (s.side x).geometry) :
    endInspectSide s x = s.setSide x ((s.side x).inspectEnded x) := by
  unfold endInspectSide SideState.inspectEnded
  split
  · exact inspectExpired_eq h
  · exact (State.setSide_self s x).symm

/-- END_INSPECT on the sides that a code names. -/
theorem foldl_endInspectSide {n : Nat} (hn : n ≤ 2) (h : WindowLaw s) :
    (namedList n).foldl endInspectSide s = { s with
      left := if names n .left then s.left.inspectEnded .left else s.left,
      right := if names n .right then s.right.inspectEnded .right else s.right } := by
  have left : endInspectSide s .left = { s with left := s.left.inspectEnded .left } := endInspectSide_eq (h .left)
  have right : ∀ d, endInspectSide { s with left := d } .right =
      { s with left := d, right := s.right.inspectEnded .right } := fun d =>
    endInspectSide_eq (s := { s with left := d }) (h .right)
  match n, hn with
  | 0, _ => exact left
  | 1, _ => exact right s.left
  | 2, _ => exact (congrArg (endInspectSide · .right) left).trans (right _)

theorem ownEndInspect_named (hn : uField p 0 1 ≤ 2) (h : WindowLaw s) :
    ownEndInspect p s = answer { s with
      left := if names (uField p 0 1) .left then s.left.inspectEnded .left else s.left,
      right := if names (uField p 0 1) .right then s.right.inspectEnded .right else s.right } .ok := by
  unfold ownEndInspect
  rw [namedSides_eq hn]
  exact congrArg (answer · .ok) (foldl_endInspectSide hn h)

theorem exec_inspectDurationExpiry (hp : s.powered = true) (hd : due (s.side x).geometry.inspectTimer s.now = true) :
    exec (.inspectDurationExpiry x) s = .next (inspectExpired x s.beginEvent) :=
  (event_powered hp _).trans (congrArg _ (if_pos (by rw [State.beginEvent_side]; exact hd)))

end

/-- Settles O50, request by request, and the expiry of the timer. -/
theorem viewRequestsMoveWindowsAndInspect : Obligations.ViewRequestsMoveWindowsAndInspect := by
  intro tag p s sound
  have taken : WindowLaw (requestTaken p.length s) := sound
  refine ⟨fun h => ⟨fun bad => exec_request_unchanged (k := .adjustView) tag h (ownAdjustView_bad bad),
      fun x wide hx hw => ?_⟩,
    fun h => ⟨fun bad => exec_request_unchanged (k := .inspect) tag h (ownInspect_bad bad),
      fun x preset hx hp => ⟨fun off => ?_, fun running => ?_⟩⟩,
    fun h => ⟨fun bad => ?_, fun named => ?_⟩, fun powered x hd present => ?_⟩
  · refine (exec_request_of_answer (k := .adjustView) tag h (ownAdjustView_base hx hw)).trans ?_
    cases x <;> rfl
  · have rule := ownInspect_preset (s := requestTaken p.length s) hx hp
    exact exec_request_unchanged (k := .inspect) tag h (rule.trans (if_pos off))
  · have rule := (ownInspect_preset (s := requestTaken p.length s) hx hp).trans (if_neg running)
    rw [inspectSide_eq (taken x), okOrClamped_bne, clampNat_eq (by decide)] at rule
    refine (exec_request_of_answer (k := .inspect) tag h rule).trans ?_
    cases x <;> rfl
  · refine exec_request_unchanged (k := .endInspect) tag h ?_
    simp only [ownerOf, ownEndInspect, namedSides_none bad]
    rfl
  · exact exec_request_of_answer (k := .endInspect) tag h (ownEndInspect_named named taken)
  · rw [exec_inspectDurationExpiry powered hd, inspectExpired_eq (by rw [State.beginEvent_side]; exact sound x)]
    dsimp only
    rw [if_pos present]
    cases x <;> rfl

end Sys2Proof.Machine

/-! # LOAD_PROFILE (O55)

The corrected settings are in range by the lemmas of `correctSide`; what is added here is that each correction keeps a
value that is in range already. -/

namespace Sys2Proof.Machine

-- One proof at a time: elaborated in parallel, they take the whole text past the memory it is compiled in.
set_option Elab.async false

/-! ## Settings in range are kept -/

theorem clampNat_self {lo hi v : Nat} (h : lo ≤ v ∧ v ≤ hi) : clampNat lo hi v = v := by
  rw [clampNat, if_neg (not_lt.2 h.1), if_neg (not_lt.2 h.2)]

theorem clampInt_self {lo hi v : Int} (h : lo ≤ v ∧ v ≤ hi) : clampInt lo hi v = v := by
  rw [clampInt, if_neg (not_lt.2 h.1), if_neg (not_lt.2 h.2)]

theorem evenWindow_self {w : Window} (h : validWindow w = true) : evenWindow w = w := by
  obtain ⟨⟨ex, ey, ew, eh⟩, -⟩ := (validWindow_iff w).1 h
  simp only [evenWindow, evenDown_self ex, evenDown_self ey, evenDown_self ew, evenDown_self eh]

/-- A valid window lies in the active area. -/
theorem areaWindow_self {w : Window} (h : validWindow w = true) : areaWindow w = w := by
  obtain ⟨-, -, -, width, height⟩ := (validWindow_iff w).1 h
  rw [areaWindow, evenWindow_self h]
  exact clampWindow_self h ((inside_iff _ _).2 ⟨Nat.zero_le _, width, Nat.zero_le _, height⟩)

/-- No entry is raised where none is below the one before it. -/
theorem raiseEntries_self {b : Nat} {l : List Nat} (low : ∀ t ∈ l, b ≤ t) (rising : l.Pairwise (· ≤ ·)) :
    raiseEntries b l = l := by
  induction l generalizing b with
  | nil => rfl
  | cons t l ih =>
    obtain ⟨first, rest⟩ := List.pairwise_cons.1 rising
    rw [raiseEntries, max_eq_right (low t (.head l)), ih first rest]

theorem correctTable_self {t : List Nat} (h : toneTable t) : correctTable t = t := by
  obtain ⟨-, high, rising⟩ := h
  have kept : t.map (min 1023) = t := (List.map_congr_left fun v hv => min_eq_right (high v hv)).trans (List.map_id t)
  rw [correctTable, kept]
  exact raiseEntries_self (fun v _ => Nat.zero_le v) rising

theorem clampGlare_self {g : GlareSettings} (h : glareInRange g) : clampGlare g = g := by
  obtain ⟨level, minHot, cap, ceiling, floor, rampDown, rampUp⟩ := h
  simp only [clampGlare, clampNat_self level, clampNat_self minHot, clampNat_self ⟨Nat.zero_le _, cap⟩,
    clampNat_self ceiling, clampNat_self floor, clampNat_self rampDown, clampNat_self rampUp]

theorem correctLimits_self {l : ExposureLimits} (h : limitsInRange l) : correctLimits l = l := by
  obtain ⟨emin, order, emax, target, eOff, apart, eOn⟩ := h
  simp only [correctLimits, clampNat_self ⟨emin, order.trans emax⟩, clampNat_self ⟨emin.trans order, emax⟩,
    clampNat_self target, clampNat_self ⟨eOff.trans apart.le, eOn⟩, clampNat_self ⟨eOff, apart.le.trans eOn⟩,
    if_neg (not_lt.2 order), if_neg (not_le.2 apart), if_neg fun e : l.eOn ≤ l.eOff ∧ l.eOn = 1 => not_le.2 apart e.1]

theorem correctThresholds_self {t : Thresholds} (h : thresholdsInRange t) : correctThresholds t = t := by
  obtain ⟨low, crit, high, hot, supply, temperature⟩ := h
  simp only [correctThresholds, clampNat_self low, clampNat_self crit, clampInt_self high, clampInt_self hot,
    if_neg (not_le.2 supply), if_neg (not_le.2 temperature)]

/-- Settings in range with base windows inside the bounds are kept. -/
theorem correctSide_self {b : Window} {q : SideProfile} (h : sideInRange q) (main : inside b q.main = true)
    (wide : inside b q.wide = true) : correctSide b q = q := by
  obtain ⟨vMain, vWide, vCurb, vAxle, vManeuver, pan, key, table, glare, limits, repeats, budget, timeout⟩ := h
  simp only [correctSide, areaWindow_self vMain, areaWindow_self vWide, areaWindow_self vCurb, areaWindow_self vAxle,
    areaWindow_self vManeuver, clampWindow_self vMain main, clampWindow_self vWide wide, correctKey,
    clampNat_self ⟨Nat.zero_le _, pan⟩, clampNat_self key, correctTable_self table, clampGlare_self glare,
    correctLimits_self limits, clampNat_self repeats, clampNat_self budget, clampNat_self timeout]

/-! ## The request (R197) -/

theorem profileCells_eq (n : Nat) (cells : List Host.Cell) :
    profileCells n cells = readCells cells (128 * (8 + 2 * n)) 256 := rfl

/-- The owning rule of LOAD_PROFILE, with the corrections of the two sides and of the thresholds compared one by one. -/
theorem ownLoadProfile_eq {p : List Byte} {s : State} {bytes : List Byte}
    (hb : profileCells (uField p 0 1) s.store.cells = bytes) :
    let stored := readProfile bytes
    let c := correctProfile s stored
    ownLoadProfile p s =
      if 3 < uField p 0 1 then answer s .badValue
      else if s.store.operation.isSome then answer s .storeBusy
      else if profileDamaged (uField p 0 1) bytes then answer s .damaged
      else answer (applyProfile c s) (if c.left = stored.left ∧ c.right = stored.right ∧
        c.thresholds = stored.thresholds then .ok else .clamped) := by
  unfold ownLoadProfile
  simp only [hb, okOrClamped_bne]
  generalize readProfile _ = stored
  generalize correctProfile s stored = c
  cases c
  cases stored
  simp only [Profile.mk.injEq]

/-- Settles O55: the request by the branches of its rule, then the corrections. -/
theorem loadProfileCorrectsAndAppliesTheStoredSettings :
    Obligations.LoadProfileCorrectsAndAppliesTheStoredSettings := by
  refine ⟨fun tag p s h => ?_, fun b q hb length => ?_, fun t => ⟨correctThresholds_inRange t, correctThresholds_self⟩⟩
  · dsimp only
    rw [← profileCells_eq]
    generalize hb : profileCells (uField p 0 1) s.store.cells = bytes
    have rule := ownLoadProfile_eq (s := requestTaken p.length s) hb
    generalize readProfile bytes = stored at rule ⊢
    split
    · next bad => exact exec_request_unchanged (k := .loadProfile) tag h (rule.trans (if_pos bad))
    · next known =>
      replace rule := rule.trans (if_neg known)
      split
      · next busy => exact exec_request_unchanged (k := .loadProfile) tag h (rule.trans (if_pos busy))
      · next free =>
        replace rule := rule.trans (if_neg free)
        split
        · next bad => exact exec_request_unchanged (k := .loadProfile) tag h (rule.trans (if_pos bad))
        · next good => exact exec_request_of_answer (k := .loadProfile) tag h (rule.trans (if_neg good))
  · exact ⟨correctSide_inRange hb length, (clampWindow_sound hb _).2, (clampWindow_sound hb _).2, correctSide_self⟩

end Sys2Proof.Machine

/-! # The vehicle signals (O47, O48)

A signal that arrives or becomes STALE changes the signal table, the override list of each side that runs, and one kind
of scope device in both sets: `State.signalled` is that change before the event settles, and `settle_signalled` what the
settled event leaves. -/

namespace Sys2Proof.Machine

-- One proof at a time: elaborated in parallel, they take the whole text past the memory it is compiled in.
set_option Elab.async false

/-! ## A kind of scope device told for both sets (R135, R156) -/

/-- Each set has one kind of the part as a whole changed alike, and the change is handed on once, under DEVICE. -/
structure DeviceTold (s : State) (k : FaultKind) (f : Side → FaultSet) (handed : List Transition) : Prop where
  device : kindScope k ≠ .side
  other : ∀ x, ∀ j ≠ k, (f x).get j = (s.faults x).get j
  change : ∃ c : Option (Direction × FlagClass),
    (∀ x, memberChange .plain ((s.faults x).get k) ((f x).get k) = c) ∧
      handed = c.toList.map fun p => ⟨k, p.1, .device, p.2⟩

theorem memberChange_eq_none {removed : FlagClass} {old new : Member} (h : memberChange removed old new = none) :
    new = old := by
  unfold memberChange at h
  split at h
  · next e => exact e.symm
  · split at h <;> exact absurd h (by simp)

section
variable {s : State} {k : FaultKind} {f : Side → FaultSet} {handed : List Transition}

theorem DeviceTold.nothing (s : State) (hk : kindScope k ≠ .side) : DeviceTold s k s.faults [] where
  device := hk
  other _ _ _ := rfl
  change := ⟨none, fun _ => memberChange_self _ _, rfl⟩

/-- A kind that stands alike in both sets is raised in both (R137). -/
theorem DeviceTold.raised (hk : kindScope k ≠ .side) (alike : ∀ x, (s.faults x).get k = (s.faults .left).get k) :
    DeviceTold s k (fun x => raisedIn (s.faults x) k)
      (if (s.faults .left).get k = .active then [] else [⟨k, .raised, .device, .plain⟩]) where
  device := hk
  other x j hj := by rw [raisedIn_get, if_neg hj]
  change := by
    by_cases active : (s.faults .left).get k = .active
    · exact ⟨none, fun x => by rw [memberChange_raisedIn, alike, if_neg fun e => e.2 active], if_pos active⟩
    · exact ⟨some (.raised, .plain), fun x => by rw [memberChange_raisedIn, alike, if_pos ⟨rfl, active⟩],
        if_neg active⟩

/-- The condition of an AUTO kind that stands alike in both sets is told gone in both (R138). -/
theorem DeviceTold.gone (hk : kindScope k ≠ .side) (auto : latched k = false)
    (alike : ∀ x, (s.faults x).get k = (s.faults .left).get k) :
    DeviceTold s k (fun x => goneIn (s.faults x) k)
      (if (s.faults .left).get k = .active then [⟨k, .cleared, .device, .plain⟩] else []) where
  device := hk
  other x j hj := by rw [goneIn_get, if_neg fun e => hj e.1]
  change := by
    by_cases active : (s.faults .left).get k = .active
    · exact ⟨some (.cleared, .plain), fun x => by rw [goneIn_get, alike, if_pos ⟨rfl, active⟩, auto, active]; rfl,
        if_pos active⟩
    · exact ⟨none, fun x => by rw [goneIn_get, alike, if_neg fun e => active e.2, memberChange_self], if_neg active⟩

/-- Where nothing that was handed on touches a side, its set is as before. -/
theorem DeviceTold.untouched (T : DeviceTold s k f handed) {x : Side} (h : touched x handed = false) :
    f x = s.faults x := by
  obtain ⟨c, change, rfl⟩ := T.change
  have none : c = none := by
    cases c with
    | none => rfl
    | some p => simp [touched] at h
  refine FaultSet.ext_get fun j => ?_
  by_cases hj : j = k
  · subst hj
    exact memberChange_eq_none ((change x).trans none)
  · exact T.other x j hj

theorem DeviceTold.handedOn (T : DeviceTold s k f handed) {t : State} (ht : t.handed = handed)
    (hf : ∀ x, t.faults x = f x) : HandedOn .plain [] s t := by
  obtain ⟨c, change, rfl⟩ := T.change
  unfold HandedOn
  rw [ht]
  simp only [hf, List.not_mem_nil, false_or]
  refine ⟨by cases c <;> simp, fun u => ?_⟩
  constructor
  · intro hu
    obtain ⟨p, hp, rfl⟩ := List.mem_map.1 hu
    exact ⟨.left, (if_neg T.device).symm, (change .left).trans (Option.mem_toList.1 hp)⟩
  · rintro ⟨x, scope, hm⟩
    obtain ⟨kind, direction, scope, flag⟩ := u
    have hk : kind = k := by
      by_contra hne
      rw [T.other x kind hne, memberChange_self] at hm
      exact absurd hm (by simp)
    subst hk
    exact List.mem_map.2 ⟨(direction, flag), Option.mem_toList.2 ((change x).symm.trans hm),
      congrArg (Transition.mk kind direction · flag) (scope.trans (if_neg T.device)).symm⟩

end

/-! ## The overrides of both sides (R102, R108) -/

/-- A side given an override list while it runs, with the windows in force resolved. -/
def SideState.overridden (x : Side) (o : Geometry → Overrides) (d : SideState) : SideState :=
  { d with geometry := if d.sup.view = .off then d.geometry
      else resolve x { d.geometry with overrides := o d.geometry } }

theorem overrideSide_eq {s : State} {x : Side} (h : geometrySound x (s.side x).geometry) (o : Geometry → Overrides) :
    overrideSide x o s = s.setSide x ((s.side x).overridden x o) := by
  unfold overrideSide SideState.overridden
  split
  · exact (State.setSide_self s x).symm
  · unfold State.onSide
    dsimp only
    rw [setOverrides_sound h]

theorem overrideSides_eq {s : State} (h : WindowLaw s) (o : Side → Geometry → Overrides) :
    overrideSide .right (o .right) (overrideSide .left (o .left) s) =
      { s with left := s.left.overridden .left (o .left), right := s.right.overridden .right (o .right) } := by
  rw [overrideSide_eq (h .left)]
  exact overrideSide_eq (s := { s with left := s.left.overridden .left (o .left) }) (h .right) _

/-! ## The event (R99, R100) -/

/-- A state with another signal table, the override lists and the sets of both sides changed, before it settles. -/
def State.signalled (s : State) (signals : SignalTable) (o : Side → Geometry → Overrides) (f : Side → FaultSet)
    (handed : List Transition) : State :=
  { s with
    left := (s.left.overridden .left (o .left)).withFaults (f .left),
    right := (s.right.overridden .right (o .right)).withFaults (f .right),
    signals := signals,
    handed := handed }

section
variable {s : State} {k : FaultKind} {f : Side → FaultSet} {handed : List Transition}

theorem signalled_side (s : State) (signals : SignalTable) (o : Side → Geometry → Overrides) (f : Side → FaultSet)
    (handed : List Transition) (x : Side) :
    (s.signalled signals o f handed).side x = ((s.side x).overridden x (o x)).withFaults (f x) := by
  cases x <;> rfl

theorem signalled_faults (s : State) (signals : SignalTable) (o : Side → Geometry → Overrides) (f : Side → FaultSet)
    (handed : List Transition) (x : Side) : (s.signalled signals o f handed).faults x = f x := by
  cases x <;> rfl

/-- The overrides of both sides after another signal table. -/
theorem overrideSides_signalled (W : WindowLaw s) (hs : s.handed = []) (signals : SignalTable)
    (o : Side → Geometry → Overrides) :
    overrideSide .right (o .right) (overrideSide .left (o .left) { s with signals := signals }) =
      s.signalled signals o s.faults [] := by
  rw [overrideSides_eq (s := { s with signals := signals }) W, State.signalled, ← hs]
  rfl

theorem raisePart_signalled (alike : (s.faults .left).get k = (s.faults .right).get k) (signals : SignalTable)
    (o : Side → Geometry → Overrides) : raisePart k (s.signalled signals o s.faults []) =
      s.signalled signals o (fun x => raisedIn (s.faults x) k)
        (if (s.faults .left).get k = .active then [] else [⟨k, .raised, .device, .plain⟩]) := by
  have both : ((s.faults .left).get k = .active ∧ (s.faults .right).get k = .active) =
      ((s.faults .left).get k = .active) := by rw [← alike, and_self]
  refine (raisePart_eq k _).trans ?_
  simp only [signalled_faults, both]
  rfl

theorem gonePart_signalled (auto : latched k = false) (alike : (s.faults .left).get k = (s.faults .right).get k)
    (signals : SignalTable) (o : Side → Geometry → Overrides) : gonePart k (s.signalled signals o s.faults []) =
      s.signalled signals o (fun x => goneIn (s.faults x) k)
        (if (s.faults .left).get k = .active then [⟨k, .cleared, .device, .plain⟩] else []) :=
  gonePart_eq auto alike

/-- What the settled event leaves. -/
theorem settle_signalled (T : DeviceTold s k f handed) (V : ViewLaw s) (signals : SignalTable)
    (o : Side → Geometry → Overrides) : ∃ t, settle (s.signalled signals o f handed) = t ∧ Reported s t ∧
      HandedOn .plain [] s t ∧
      t = { s with left := t.left, right := t.right, signals := signals, reports := t.reports, handed := t.handed } ∧
      ∀ x, ViewFollows x s t ∧ MapFollows x s t ∧ t.faults x = f x ∧
        t.side x = { s.side x with
          geometry := if (s.side x).sup.view = .off then (s.side x).geometry
            else resolve x { (s.side x).geometry with overrides := o x (s.side x).geometry },
          sup := { (s.side x).sup with view := (t.side x).sup.view, faults := t.faults x },
          gain := (t.side x).gain } := by
  have side := signalled_side s signals o f handed
  have faults := signalled_faults s signals o f handed
  have view x : ((s.signalled signals o f handed).side x).sup.view = (s.side x).sup.view := by rw [side]; rfl
  have gain x : ((s.signalled signals o f handed).side x).gain = (s.side x).gain := by rw [side]; rfl
  refine ⟨_, rfl, reported_settle rfl rfl,
    T.handedOn (settle_handed _) fun x => (settle_faults _ x).trans (faults x), ?_, fun x =>
    ⟨viewFollows_settle V (view x) fun h => (faults x).trans (T.untouched h), mapFollows_settle (view x) (gain x),
      (settle_faults _ x).trans (faults x), ?_⟩⟩
  · rw [settle_eq]
    rfl
  · rw [settle_faults, faults, settle_side, side]
    rfl

/-- A kind of scope device stands in each set as it does in the left one. -/
theorem FaultLaw.alike (h : FaultLaw s) (hk : kindScope k ≠ .side) (x : Side) :
    (s.faults x).get k = (s.faults .left).get k := by
  cases x with
  | left => rfl
  | right => exact (h.1 k hk).symm

end

/-! ## The freshness timer (O48) -/

/-- The status of a signal (R98). -/
def SignalTable.status (t : SignalTable) : Signal → SignalStatus
  | .speed => t.speedStatus
  | .reverse => t.reverseStatus
  | .angle => t.angleStatus

/-- An arrived signal made STALE is one that VEHICLE_SIGNAL_STALE tells of (R101). -/
theorem anySignalStale_makeStale {sig : Signal} {t : SignalTable} (h : (t.status sig).arrived = true) :
    anySignalStale (makeStale sig t) = true := by
  unfold anySignalStale makeStale staleStatus
  cases sig with
  | speed => rw [show t.speedStatus.arrived = true from h]; rfl
  | reverse => simp only [show t.reverseStatus.arrived = true from h, Bool.not_false, Bool.and_self, Bool.or_true,
      Bool.true_or]
  | angle => simp only [show t.angleStatus.arrived = true from h, Bool.not_false, Bool.and_self, Bool.or_true]

theorem freshnessExpired_eq {sig : Signal} {s : State} (F : FaultLaw s) (W : WindowLaw s) (hs : s.handed = [])
    (stale : anySignalStale (makeStale sig s.signals) = true) :
    freshnessExpired sig s = settle (s.signalled (makeStale sig s.signals) (fun _ g => staleOverrides sig g.overrides)
      (fun x => raisedIn (s.faults x) .vehicleSignalStale)
      (if (s.faults .left).get .vehicleSignalStale = .active then []
        else [⟨.vehicleSignalStale, .raised, .device, .plain⟩])) := by
  unfold freshnessExpired
  dsimp only
  rw [overrideSides_signalled W hs _ fun _ g => staleOverrides sig g.overrides]
  exact congrArg settle ((if_pos stale).trans (raisePart_signalled (F.1 .vehicleSignalStale nofun) _ _))

theorem exec_freshnessTimerExpiry {sig : Signal} {s : State} (hp : s.powered = true)
    (hd : due (freshnessTimer s.signals sig) s.now = true) :
    exec (.freshnessTimerExpiry sig) s = .next (freshnessExpired sig s.beginEvent) :=
  (event_powered hp _).trans (congrArg _ (if_pos hd))

/-- Settles O48: the STALE signal raises VEHICLE_SIGNAL_STALE, and the event settles by `settle_signalled`. -/
theorem freshnessTimerMakesASignalStale : Obligations.FreshnessTimerMakesASignalStale := by
  intro sig s powered F V W hd arrived
  replace arrived : (s.signals.status sig).arrived = true := by cases sig <;> exact arrived
  have told := DeviceTold.raised (s := s.beginEvent) (k := .vehicleSignalStale) nofun (F.alike nofun)
  obtain ⟨t, settled, reported, handedOn, rest, sides⟩ := settle_signalled told V (makeStale sig s.signals)
    fun _ g => staleOverrides sig g.overrides
  refine ⟨t, ?_, reported, handedOn, ?_, fun x => ?_⟩
  · rw [exec_freshnessTimerExpiry powered hd, ← settled]
    exact congrArg _ (freshnessExpired_eq (s := s.beginEvent) F W rfl (anySignalStale_makeStale arrived))
  · refine rest.trans ?_
    cases sig <;> rfl
  · obtain ⟨view, map, faults, side⟩ := sides x
    refine ⟨view, map, faults, side.trans ?_⟩
    cases sig <;> rfl

/-! ## VEHICLE_STATE (O47) -/

/-- What the arrivals of a request make of the signal table, written out (R99). -/
theorem signalArrivals_eq (r : SignalRequest) (now : PartTime) (t : SignalTable) : signalArrivals r now t =
    { speed := if r.hasSpeed then min 2550 r.speed else t.speed,
      reverse := if r.hasReverse then r.reverse == 1 else t.reverse,
      angle := if r.hasAngle then max (-900) (min 900 r.angle) else t.angle,
      speedStatus := if r.hasSpeed then ⟨true, true, some (after now 300000)⟩ else t.speedStatus,
      reverseStatus := if r.hasReverse then ⟨true, true, some (after now 300000)⟩ else t.reverseStatus,
      angleStatus := if r.hasAngle then ⟨true, true, some (after now 300000)⟩ else t.angleStatus } := by
  rw [← clampInt_eq (by decide : (-900 : Int) ≤ 900)]
  rfl

theorem clampInt_bne {lo hi v : Int} (h : lo ≤ hi) : (clampInt lo hi v != v) = decide (v < lo ∨ hi < v) := by
  rw [Bool.eq_iff_iff, bne_iff_ne, decide_eq_true_eq, clampInt_eq h]
  omega

/-- Whether the speed or the angle carried lies outside its range (R99). -/
theorem signalsClamped_eq (r : SignalRequest) : signalsClamped r =
    (r.hasSpeed && decide (2550 < r.speed) || r.hasAngle && decide (r.angle < -900 ∨ 900 < r.angle)) := by
  rw [signalsClamped, clampInt_bne (by decide)]

theorem turnFollowArrival_eq (x : Side) (panGain : Nat) (angle : Int) (o : Overrides) :
    turnFollowArrival x panGain angle o =
      { o with
        turnFollow :=
          if o.turnFollow = none then (if 80 ≤ angleToward x angle then some (panOf panGain angle) else none)
          else if angleToward x angle < 50 then none else some (panOf panGain angle) } := by
  obtain ⟨inspect, maneuver, turnFollow⟩ := o
  unfold turnFollowArrival
  cases turnFollow with
  | none => dsimp only; split <;> rfl
  | some pan => dsimp only; split <;> rfl

/-- The override list of a side after the arrivals, entry by entry (R105 to R107). -/
theorem arrivalOverrides_eq (x : Side) {r : SignalRequest} {t : SignalTable} (g : Geometry)
    (h : r.hasReverse = true → t.reverse = (r.reverse == 1)) :
    arrivalOverrides x r t g =
      { inspect := g.overrides.inspect,
        maneuver := if r.hasReverse then r.reverse == 1 else g.overrides.maneuver,
        turnFollow :=
          if r.hasAngle then
            (if g.overrides.turnFollow = none then
              (if 80 ≤ angleToward x t.angle then some (panOf g.panGain t.angle) else none)
            else if angleToward x t.angle < 50 then none else some (panOf g.panGain t.angle))
          else g.overrides.turnFollow } := by
  have maneuver : (if r.hasReverse then maneuverArrival t.reverse g.overrides else g.overrides) =
      { g.overrides with maneuver := if r.hasReverse then r.reverse == 1 else g.overrides.maneuver } := by
    split
    · next arrived => rw [maneuverArrival, h arrived]
    · rfl
  unfold arrivalOverrides
  dsimp only
  rw [maneuver, turnFollowArrival_eq]
  split <;> rfl

/-- Whether an arrival leaves no arrived signal STALE (R101). -/
def staleGone (r : SignalRequest) (signals : SignalTable) : Bool :=
  (r.hasSpeed || r.hasReverse || r.hasAngle) && !anySignalStale signals

section
variable {s : State} {p : List Byte}

theorem clearSignalStale_signalled (F : FaultLaw s) (r : SignalRequest) (signals : SignalTable)
    (o : Side → Geometry → Overrides) : ∃ f handed, DeviceTold s .vehicleSignalStale f handed ∧
      (∀ x, f x = if staleGone r signals then goneIn (s.faults x) .vehicleSignalStale else s.faults x) ∧
      clearSignalStale r (s.signalled signals o s.faults []) = s.signalled signals o f handed := by
  by_cases h : staleGone r signals = true
  · exact ⟨_, _, .gone nofun rfl (F.alike nofun), fun x => (if_pos h).symm,
      (if_pos h).trans (gonePart_signalled rfl (F.1 .vehicleSignalStale nofun) signals o)⟩
  · exact ⟨_, _, .nothing s nofun, fun x => (if_neg h).symm, if_neg h⟩

theorem ownVehicleState_bad (flag : (p.getD 0 0).getLsbD 1 = true) (value : 1 < uField p 3 1) :
    ownVehicleState p s = answer s .badValue :=
  if_pos (Bool.and_eq_true_iff.2 ⟨flag, decide_eq_true value⟩)

/-- The owning rule of VEHICLE_STATE, where the reverse value is one. -/
theorem ownVehicleState_taken (F : FaultLaw s) (W : WindowLaw s) (hs : s.handed = [])
    (ok : (p.getD 0 0).getLsbD 1 = false ∨ uField p 3 1 ≤ 1) :
    let r := signalRequest p
    let signals := signalArrivals r s.now s.signals
    ∃ f handed, DeviceTold s .vehicleSignalStale f handed ∧
      (∀ x, f x = if staleGone r signals then goneIn (s.faults x) .vehicleSignalStale else s.faults x) ∧
      ownVehicleState p s = answer (settle (s.signalled signals (fun x => arrivalOverrides x r signals) f handed))
        (okOrClamped (signalsClamped r)) := by
  intro r signals
  obtain ⟨f, handed, told, sets, cleared⟩ := clearSignalStale_signalled F r signals fun x =>
    arrivalOverrides x r signals
  have good : ¬(r.hasReverse && decide (1 < r.reverse)) = true := by
    rw [Bool.and_eq_true_iff, decide_eq_true_eq]
    rintro ⟨flag, value⟩
    obtain ok | ok := ok
    · exact absurd (flag.symm.trans ok) (by decide)
    · exact absurd value (Nat.not_lt.2 ok)
  refine ⟨f, handed, told, sets, (if_neg good).trans (congrArg (fun u => answer (settle u) _) ?_)⟩
  rw [← cleared, ← overrideSides_signalled W hs signals fun x => arrivalOverrides x r signals,
    (SidesOnly.refl _).overrideSide.signals]

/-- VEHICLE_STATE as answered. -/
theorem vehicleState_taken (tag : Byte) (h : Answerable .vehicleState p s) (F : FaultLaw s) (V : ViewLaw s)
    (W : WindowLaw s) (ok : (p.getD 0 0).getLsbD 1 = false ∨ uField p 3 1 ≤ 1) :
    let r := signalRequest p
    ∃ t, exec (.vehicleState tag p) s = .next t ∧ Reported s t ∧ HandedOn .plain [] s t ∧
      t = { answered .vehicleState tag p.length (okOrClamped (signalsClamped r)) [] s with
        left := t.left, right := t.right, signals := t.signals, reports := t.reports, handed := t.handed } ∧
      t.signals = signalArrivals r s.now s.signals ∧
      ∀ x, ViewFollows x s t ∧ MapFollows x s t ∧
        t.faults x = (if staleGone r t.signals then goneIn (s.faults x) .vehicleSignalStale else s.faults x) ∧
        t.side x = { s.side x with
          geometry := if (s.side x).sup.view = .off then (s.side x).geometry
            else resolve x { (s.side x).geometry with overrides := arrivalOverrides x r t.signals (s.side x).geometry },
          sup := { (s.side x).sup with view := (t.side x).sup.view, faults := t.faults x },
          gain := (t.side x).gain } := by
  intro r
  obtain ⟨f, handed, told, sets, rule⟩ := ownVehicleState_taken (s := requestTaken p.length s) F W rfl ok
  generalize arrived : signalArrivals r (requestTaken p.length s).now (requestTaken p.length s).signals = signals
    at sets rule
  obtain ⟨t, settled, reported, handedOn, rest, sides⟩ := settle_signalled told V signals
    fun x => arrivalOverrides x r signals
  obtain rfl : t.signals = signals := congrArg State.signals rest
  refine ⟨_, exec_request_of_answer (k := .vehicleState) tag h (rule.trans (congrArg (answer · _) settled)), reported,
    handedOn, ?_, arrived.symm, fun x => ?_⟩
  · rw [rest]
    rfl
  · obtain ⟨view, map, faults, side⟩ := sides x
    exact ⟨view, map, faults.trans (sets x), side⟩

end

/-- Settles O47: the request as answered, its signals and override lists written out entry by entry. -/
theorem vehicleStateArrivesAtSignalsAndOverrides : Obligations.VehicleStateArrivesAtSignalsAndOverrides := by
  intro tag p s h F V W
  refine ⟨fun flag value => exec_request_unchanged (k := .vehicleState) tag h (ownVehicleState_bad flag value),
    fun ok => ?_⟩
  obtain ⟨t, taken, reported, handedOn, rest, signals, sides⟩ := vehicleState_taken tag h F V W ok
  rw [signalsClamped_eq] at rest
  refine ⟨t, taken, reported, handedOn, rest, signals.trans (signalArrivals_eq _ _ _), fun x => ?_⟩
  obtain ⟨view, map, faults, side⟩ := sides x
  refine ⟨view, map, faults, side.trans ?_⟩
  rw [arrivalOverrides_eq x _ fun arrived => (congrArg SignalTable.reverse signals).trans (if_pos arrived)]
  cases x <;> rfl

end Sys2Proof.Machine

/-! # Every step keeps the laws of the active fault sets and of the view states (O7)

Raising a kind, telling it gone and removing it change the sets; the views follow when the event settles. In between a
side may have a view that does not fit its set, but then a transition that touches it has been handed on: that is
`Supervised true`. `Supervised false` is the two laws, and what an event leaves once it is settled. -/

namespace Sys2Proof.Machine

-- One proof at a time: elaborated in parallel, they take the whole text past the memory it is compiled in.
set_option Elab.async false

/-! ## One set -/

/-- What the law of the sets says of one set (R138, R139, R154). -/
structure FaultSet.Sound (f : FaultSet) : Prop where
  held : ∀ k, f.get k = .held → latched k = true ∧ k ≠ .calibrationDamaged
  malformed : f.get .frameMalformed = .absent

/-- The kinds of scope both or device stand alike in two sets (R135). -/
def FaultSet.SamePart (f g : FaultSet) : Prop :=
  ∀ k, kindScope k ≠ .side → f.get k = g.get k

/-- A kind of scope side that may stand in a set when an event is over; FRAME_MALFORMED never does (R139). -/
def lasting (k : FaultKind) : Bool :=
  kindScope k == .side && k != .frameMalformed

theorem lasting_iff {k : FaultKind} : lasting k = true ↔ kindScope k = .side ∧ k ≠ .frameMalformed := by
  simp [lasting]

/-- A kind that may be HELD is one of scope side: CALIBRATION_DAMAGED is the only other LATCHED kind. -/
theorem side_of_latched {k : FaultKind} (h : latched k = true) (hk : k ≠ .calibrationDamaged) :
    kindScope k = .side := by
  cases k <;> first | rfl | exact absurd rfl hk | exact absurd h Bool.false_ne_true

section
variable {f g : FaultSet} {k : FaultKind}

theorem FaultSet.SamePart.trans {e : FaultSet} (h : e.SamePart f) (h' : f.SamePart g) : e.SamePart g :=
  fun k hk => (h k hk).trans (h' k hk)

theorem FaultSet.SamePart.symm (h : f.SamePart g) : g.SamePart f := fun k hk => (h k hk).symm

theorem FaultSet.samePart_set (f : FaultSet) (hk : kindScope k = .side) (m : Member) : (f.set k m).SamePart f :=
  fun _ hj => FaultSet.get_set_of_ne f m fun e => hj (e ▸ hk)

theorem FaultSet.samePart_goneIn (f : FaultSet) (hk : kindScope k = .side) : (goneIn f k).SamePart f := by
  unfold goneIn
  split
  · exact f.samePart_set hk _
  · exact fun _ _ => rfl

/-- The same change of one kind in two sets. -/
theorem FaultSet.SamePart.set (h : f.SamePart g) (k : FaultKind) (m : Member) : (f.set k m).SamePart (g.set k m) :=
  fun j hj => by simp only [FaultSet.get_set_eq, h j hj]

theorem FaultSet.SamePart.goneIn (h : f.SamePart g) (hk : kindScope k ≠ .side) :
    (goneIn f k).SamePart (Machine.goneIn g k) :=
  fun j hj => by simp only [goneIn_get, h j hj, h k hk]

theorem FaultSet.Sound.set (h : f.Sound) {m : Member} (held : m = .held → latched k = true ∧ k ≠ .calibrationDamaged)
    (brief : k = .frameMalformed → m = .absent) : (f.set k m).Sound where
  held j hj := by
    rw [FaultSet.get_set_eq] at hj
    split at hj
    · next e => exact e ▸ held hj
    · exact h.held j hj
  malformed := by
    rw [FaultSet.get_set_eq]
    split
    · next e => exact brief e.symm
    · exact h.malformed

theorem FaultSet.Sound.removed (h : f.Sound) (k : FaultKind) : (f.set k .absent).Sound :=
  h.set nofun fun _ => rfl

theorem FaultSet.Sound.without (h : f.Sound) (l : List FaultKind) : (f.without l).Sound := by
  induction l generalizing f with
  | nil => exact h
  | cons k l ih => exact ih (h.removed k)

theorem FaultSet.Sound.raisedIn (h : f.Sound) (hk : k ≠ .frameMalformed) : (raisedIn f k).Sound :=
  h.set nofun fun e => absurd e hk

theorem FaultSet.Sound.goneIn (h : f.Sound) (hk : k ≠ .calibrationDamaged) : (goneIn f k).Sound := by
  unfold Machine.goneIn
  split
  · refine h.set (fun e => ⟨?_, hk⟩) fun e => by subst e; rfl
    cases hl : latched k
    · rw [hl] at e; exact absurd e (by decide)
    · rfl
  · exact h

end

/-! ## The views -/

/-- The view that follows a set hangs on the set and the view alone. -/
theorem nextView_congr {a b : Supervision} (hf : b.faults = a.faults) (hv : b.view = a.view) :
    nextView b = nextView a := by
  unfold nextView
  rw [hf, hv]

/-- A view that followed its set does so still (R142). -/
theorem nextView_idem (sup : Supervision) : nextView { sup with view := nextView sup } = nextView sup := by
  unfold nextView evaluated
  cases sup.view <;> cases sup.faults.holdsClass .blank <;> cases sup.faults.holdsClass .degrade <;> rfl

theorem nextView_evaluated (sup : Supervision) :
    nextView { sup with view := evaluated sup.faults } = evaluated sup.faults := by
  unfold nextView evaluated
  cases sup.faults.holdsClass .blank <;> cases sup.faults.holdsClass .degrade <;> rfl

/-- The law of the views: each side has the view that follows its set. -/
theorem viewLaw_iff (s : State) : ViewLaw s ↔ ∀ x, nextView (s.side x).sup = (s.side x).sup.view := by
  refine forall_congr' fun x => ?_
  unfold nextView State.faults
  cases (s.side x).sup.view with
  | off => exact iff_of_true trivial rfl
  | starting => cases (s.side x).sup.faults.holdsClass .blank <;> simp
  | normal => exact eq_comm
  | degraded => exact eq_comm
  | blanked => exact eq_comm

/-! ## Both sides -/

/-- Both sets are sound and alike in the kinds of the part, and each side has the view that follows its set, or, while
the event is not settled, a transition that touches the side has been handed on. -/
structure Supervised (unsettled : Bool) (s : State) : Prop where
  alike : (s.faults .left).SamePart (s.faults .right)
  sound : ∀ x, (s.faults x).Sound
  view : ∀ x, nextView (s.side x).sup = (s.side x).sup.view ∨ unsettled = true ∧ touched x s.handed = true

theorem supervised_iff (s : State) : Supervised false s ↔ FaultLaw s ∧ ViewLaw s := by
  rw [viewLaw_iff]
  exact ⟨fun h => ⟨⟨h.alike, fun x => ⟨(h.sound x).held, (h.sound x).malformed⟩⟩,
      fun x => (h.view x).resolve_right fun e => absurd e.1 Bool.false_ne_true⟩,
    fun ⟨⟨alike, sound⟩, view⟩ => ⟨alike, fun x => ⟨(sound x).1, (sound x).2⟩, fun x => .inl (view x)⟩⟩

/-- Two states of a side with the same set and the same view. -/
structure SameStand (d e : SideState) : Prop where
  faults : e.sup.faults = d.sup.faults := by rfl
  view : e.sup.view = d.sup.view := by rfl

theorem SameStand.nextView {d e : SideState} (h : SameStand d e) : nextView e.sup = nextView d.sup :=
  nextView_congr h.faults h.view

namespace Supervised

variable {b : Bool} {s : State} {x : Side}

/-! ### Operations -/

theorem loosen (h : Supervised b s) : Supervised true s :=
  ⟨h.alike, h.sound, fun x => (h.view x).imp_right fun e => ⟨rfl, e.2⟩⟩

theorem sides (h : Supervised b s) {t : State} (stand : ∀ y, SameStand (s.side y) (t.side y))
    (handed : b = true → t.handed = s.handed) : Supervised b t := by
  have faults y : t.faults y = s.faults y := (stand y).faults
  refine ⟨by rw [faults, faults]; exact h.alike, fun y => by rw [faults]; exact h.sound y, fun y => ?_⟩
  rw [(stand y).nextView, (stand y).view]
  exact (h.view y).imp_right fun e => ⟨e.1, by rw [handed e.1]; exact e.2⟩

theorem congr (h : Supervised b s) {t : State} (hl : SameStand s.left t.left := by exact {})
    (hr : SameStand s.right t.right := by exact {}) (handed : t.handed = s.handed := by rfl) : Supervised b t :=
  h.sides (fun | .left => hl | .right => hr) fun _ => handed

/-- The laws do not look at the record of an event that is settled. -/
theorem settledCongr (h : Supervised false s) {t : State} (hl : SameStand s.left t.left := by exact {})
    (hr : SameStand s.right t.right := by exact {}) : Supervised false t :=
  h.sides (fun | .left => hl | .right => hr) nofun

/-- A side with another view, which follows its set. -/
theorem viewed (h : Supervised b s) {d : SideState} (faults : d.sup.faults = s.faults x)
    (view : nextView d.sup = d.sup.view) : Supervised b (s.setSide x d) := by
  have sets y : (s.setSide x d).faults y = s.faults y := by
    unfold State.faults
    rw [State.side_setSide_eq]
    split
    · next e => subst e; exact faults
    · rfl
  refine ⟨by rw [sets, sets]; exact h.alike, fun y => by rw [sets]; exact h.sound y, fun y => ?_⟩
  rw [State.side_setSide_eq, State.setSide_handed]
  split
  · exact .inl view
  · exact h.view y

/-- A change of a side that leaves its set and its view. -/
theorem onSide (h : Supervised b s) {f : SideState → SideState}
    (hf : SameStand (s.side x) (f (s.side x)) := by exact {}) : Supervised b (s.onSide x f) := by
  refine h.sides (fun y => ?_) fun _ => State.onSide_handed ..
  rw [State.side_onSide_eq]
  split
  · next e => subst e; exact hf
  · exact {}

/-- Both sets changed, where the transitions handed on touch each side whose set they change. -/
theorem changedBoth (h : Supervised b s) {f : Side → FaultSet} {l : List Transition}
    (alike : (f .left).SamePart (f .right)) (sound : ∀ y, (f y).Sound)
    (told : ∀ y, touched y l = false → f y = s.faults y) :
    Supervised true { s with
      left := s.left.withFaults (f .left), right := s.right.withFaults (f .right), handed := s.handed ++ l } := by
  have view y : nextView ((s.side y).withFaults (f y)).sup = (s.side y).sup.view ∨
      true = true ∧ touched y (s.handed ++ l) = true := by
    rw [touched_append, Bool.or_eq_true]
    cases ht : touched y l with
    | true => exact .inr ⟨rfl, .inr rfl⟩
    | false =>
      rw [told y ht]
      exact (h.view y).imp_right fun e => ⟨rfl, .inl e.2⟩
  exact ⟨alike, fun | .left => sound .left | .right => sound .right, fun | .left => view .left | .right => view .right⟩

/-- The set of one side changed, where the transitions handed on touch the side if they change it. -/
theorem changed (h : Supervised b s) {f : FaultSet} {l : List Transition} (part : f.SamePart (s.faults x))
    (sound : f.Sound) (told : touched x l = false → f = s.faults x) :
    Supervised true { s.setSide x ((s.side x).withFaults f) with handed := s.handed ++ l } := by
  cases x with
  | left =>
    exact h.changedBoth (f := fun | .left => f | .right => s.faults .right) (part.trans h.alike)
      (fun | .left => sound | .right => h.sound .right) fun | .left => told | .right => fun _ => rfl
  | right =>
    exact h.changedBoth (f := fun | .left => s.faults .left | .right => f) (h.alike.trans part.symm)
      (fun | .left => h.sound .left | .right => sound) fun | .left => fun _ => rfl | .right => told

theorem emit (h : Supervised b s) {o : Output} : Supervised b (s.emit o) := h.congr

theorem count (h : Supervised b s) {f : Counters → Counters} : Supervised b (s.count x f) := h.onSide

theorem raise (h : Supervised b s) {k : FaultKind} (hk : lasting k = true := by decide) :
    Supervised true (raise x k s) := by
  obtain ⟨scope, brief⟩ := lasting_iff.1 hk
  rw [raise_eq]
  refine h.changed (FaultSet.samePart_set _ scope _) ((h.sound x).raisedIn brief) fun quiet => ?_
  split at quiet
  · next active => exact raisedIn_active active
  · simp [touched] at quiet

theorem gone (h : Supervised b s) {k : FaultKind} (hk : kindScope k = .side := by decide) :
    Supervised true (gone x k s) := by
  rw [gone_eq]
  refine h.changed (FaultSet.samePart_goneIn _ hk) ((h.sound x).goneIn fun e => ?_) fun quiet => ?_
  · subst e; exact absurd hk (by decide)
  · split at quiet
    · simp [touched] at quiet
    · next idle => exact if_neg idle

theorem raisePart (h : Supervised b s) {k : FaultKind} (hk : kindScope k ≠ .side := by decide) :
    Supervised true (raisePart k s) := by
  rw [raisePart_eq]
  refine h.changedBoth (f := fun y => raisedIn (s.faults y) k) (h.alike.set k _)
    (fun y => (h.sound y).raisedIn fun e => hk (e ▸ rfl)) fun y quiet => ?_
  split at quiet
  · next active =>
    cases y with
    | left => exact raisedIn_active active.1
    | right => exact raisedIn_active active.2
  · simp [touched] at quiet

theorem gonePart (h : Supervised b s) {k : FaultKind} (hk : kindScope k ≠ .side := by decide)
    (auto : latched k = false := by decide) : Supervised true (gonePart k s) := by
  rw [gonePart_eq auto (h.alike k hk)]
  refine h.changedBoth (f := fun y => goneIn (s.faults y) k) (h.alike.goneIn hk)
    (fun y => (h.sound y).goneIn fun e => absurd auto (by subst e; decide)) fun y quiet => ?_
  split at quiet
  · simp [touched] at quiet
  · next idle =>
    refine if_neg ?_
    cases y with
    | left => exact idle
    | right => rw [← h.alike k hk]; exact idle

/-- The views follow the sets once the event settles (R140, R142). -/
theorem settle (h : Supervised b s) : Supervised false (settle s) := by
  refine ⟨by rw [settle_faults, settle_faults]; exact h.alike, fun y => by rw [settle_faults]; exact h.sound y,
    fun y => .inl ?_⟩
  rw [settle_side]
  change nextView { (s.side y).sup with view := settledView y s.handed (s.side y) } = settledView y s.handed (s.side y)
  unfold settledView
  split
  · exact nextView_idem _
  · next quiet => exact (h.view y).resolve_right fun e => quiet e.2

theorem setView (h : Supervised b s) {v : ViewState}
    (hv : nextView { (s.side x).sup with view := v } = v) : Supervised b (setView x v s) := by
  rw [setView_eq]
  exact h.viewed rfl hv

/-- What each member of a list keeps, the list keeps. -/
theorem foldl {α : Type} {f : State → α → State} (hf : ∀ u a, Supervised b u → Supervised b (f u a)) (l : List α)
    (h : Supervised b s) : Supervised b (l.foldl f s) := by
  induction l generalizing s with
  | nil => exact h
  | cons a l ih => exact ih (hf s a h)

theorem dispatch (h : Supervised b s) : Supervised b (dispatch x s) := by
  unfold Machine.dispatch
  split
  · exact h.onSide.emit
  · exact h

theorem submit (h : Supervised b s) {t : Transaction} : Supervised b (submit x t s) := h.onSide.dispatch

theorem acknowledged (h : Supervised b s) : Supervised true (acknowledged x s) := h.onSide.gone.dispatch

theorem failed (h : Supervised b s) : Supervised true (failed x s) := by
  unfold Machine.failed
  repeat' split
  · exact h.onSide.loosen
  · exact h.onSide.raise.dispatch
  · exact h.onSide.count.emit.loosen

/-! ### Capture -/

theorem fire (h : Supervised b s) : Supervised true (fire x s) := h.emit.gone

theorem dropLate (h : Supervised b s) : Supervised true (dropLate x s) := h.count.raise

theorem releaseHold (h : Supervised b s) : Supervised true (releaseHold x s) := by
  have clear : Supervised b (clearHold x s) := h.onSide
  unfold Machine.releaseHold
  split
  · exact h.loosen
  · split
    · exact clear.fire
    · exact clear.dropLate

theorem camExpired (h : Supervised b s) : Supervised true (camExpired x s) := by
  have advanced : Supervised b (s.onSide x fun d => { d with cam := d.cam.advance }) := h.onSide
  unfold Machine.camExpired holdTrigger
  dsimp only
  repeat' split
  · exact advanced.loosen
  · exact advanced.dropLate.onSide
  · exact advanced.onSide.loosen
  · exact advanced.fire

theorem phaseCorrect (h : Supervised b s) {e : Int} : Supervised b (phaseCorrect x e s) := by
  unfold Machine.phaseCorrect
  repeat' split
  · exact h.onSide
  · exact h
  · exact h
  · exact h.onSide.submit

theorem phaseCount (h : Supervised b s) {e : Int} : Supervised true (phaseCount x e s) := by
  unfold Machine.phaseCount
  dsimp only
  repeat' split
  · exact h.onSide.gone
  · exact h.onSide.loosen
  · exact h.onSide.raise
  · exact h.onSide.loosen

theorem measurePhase (h : Supervised b s) : Supervised true (measurePhase x s) := by
  unfold Machine.measurePhase
  split
  · exact h.loosen
  · exact h.phaseCorrect.phaseCount

/-- A frame found malformed leaves the set as it was: its kind is raised and told gone in the one event (R139). -/
theorem malformed (h : Supervised b s) : Supervised true (malformed x s) := by
  unfold Machine.malformed
  have counted : Supervised b (s.count x fun c => { c with malformed := satInc c.malformed }) := h.count
  generalize s.count x (fun c => { c with malformed := satInc c.malformed }) = u at counted
  have clear : (u.side x).sup.faults.get .frameMalformed = .absent := (counted.sound x).malformed
  have same := counted.changed (x := x) (f := u.faults x) (l := malformedBriefly x) (fun _ _ => rfl) (counted.sound x)
    fun _ => rfl
  have eq : Machine.gone x .frameMalformed (Machine.raise x .frameMalformed u) =
      u.within x ((u.side x).withFaults (u.faults x)) u.out (u.handed ++ malformedBriefly x) := by
    nth_rw 1 [← State.setSide_self u x]
    rw [setSide_within, within_raise, within_gone]
    simp only [withFaults_faults, raisedIn_then_goneIn clear rfl, raisedIn_get, clear]
    simp [malformedBriefly, SideState.withFaults, State.faults, goneFlag, latched]
  rw [eq]
  exact same.congr (by cases x <;> exact {}) (by cases x <;> exact {}) (by cases x <;> rfl)

theorem frameStart (h : Supervised false s) {n e l : Word16} : Supervised false (frameStart x n e l s) := by
  unfold Machine.frameStart
  dsimp only
  split
  · exact h
  · split
    · exact h.malformed.onSide.gone.measurePhase.settle
    · exact h.onSide.gone.measurePhase.settle

theorem lineArrived (h : Supervised b s) {bytes : List Byte} : Supervised b (lineArrived x bytes s) := by
  unfold Machine.lineArrived
  split
  · exact h
  · split
    · exact h
    · refine h.onSide ?_
      split
      · rw [usedLine_eq]
        exact {}
      · exact {}

theorem frozenCheck (h : Supervised b s) {f : FrameInProgress} {p : Port} :
    Supervised true (frozenCheck x f p s) := by
  unfold Machine.frozenCheck
  repeat' split
  · exact h.raise
  · exact h.loosen
  · exact h.gone

theorem frameEnd (h : Supervised false s) : Supervised false (frameEnd x s) := by
  have passed (f : FrameInProgress) : SameStand (s.side x) (passGood f (s.side x)) := by
    rw [passGood, completeStatistics_eq]
    exact {}
  unfold Machine.frameEnd
  dsimp only
  split
  · exact h
  · split
    · exact h
    · next f _ =>
      split
      · exact (h.onSide (passed f)).frozenCheck.releaseHold.settle
      · exact h.onSide.malformed.releaseHold.settle

theorem linkLostExpired (h : Supervised b s) : Supervised false (linkLostExpired x s) := by
  unfold Machine.linkLostExpired
  dsimp only
  split
  · exact h.onSide.raise.onSide.releaseHold.settle
  · exact h.onSide.raise.settle

/-! ### Exposure, glare and display -/

theorem takeExposure (h : Supervised b s) : Supervised b (takeExposure x s) := by
  have night (c : Completed) (rest : List Completed) : Supervised b (s.onSide x fun d =>
      updateNight c.exposure { d with exposure := { d.exposure with waiting := rest } }) := by
    refine h.onSide ?_
    unfold updateNight
    dsimp only
    split <;> exact {}
  unfold Machine.takeExposure meter
  repeat' split
  · exact h
  · exact night _ _
  · exact night _ _
  · exact (night _ _).onSide.submit

theorem takeGlare (h : Supervised b s) : Supervised b (takeGlare x s) := by
  unfold Machine.takeGlare
  split
  · exact h
  · refine h.onSide ?_
    dsimp only
    split <;> exact {}

theorem repeatCheck (h : Supervised b s) {o : RingOutcome} : Supervised true (repeatCheck x o s) := by
  unfold Machine.repeatCheck
  repeat' split
  · exact h.gone
  · exact h.raise
  · exact h.loosen
  · exact h.loosen

/-- A side in STARTING goes to its evaluated state (R146). -/
theorem endStarting (h : Supervised b s) {o : RingOutcome} : Supervised b (endStarting x o s) := by
  unfold Machine.endStarting
  split
  · exact h.setView (nextView_evaluated _)
  · exact h

theorem vsyncExpired (h : Supervised false s) : Supervised false (vsyncExpired x s) := by
  have blocks : Supervised false (s.onSide x vsyncBlocks) := h.onSide
  unfold Machine.vsyncExpired showFrame freshFrame
  dsimp only
  repeat' split
  · exact h.onSide
  · exact blocks.onSide.gone.repeatCheck.endStarting.settle.onSide
  · exact blocks.repeatCheck.endStarting.settle.onSide

theorem tagCheck (h : Supervised b s) {agree : Bool} : Supervised true (tagCheck x agree s) := by
  unfold Machine.tagCheck
  dsimp only
  repeat' split
  · exact h.onSide.gone
  · exact h.onSide.loosen
  · exact h.onSide.raise
  · exact h.onSide.loosen

theorem latencyCheck (h : Supervised b s) {c : Option PartTime} : Supervised true (latencyCheck x c s) := by
  unfold Machine.latencyCheck
  dsimp only
  repeat' split
  · exact h.loosen
  · exact h.onSide.raise
  · exact h.onSide.loosen
  · exact h.onSide.gone
  · exact h.onSide.loosen

theorem sideCheck (h : Supervised b s) {c : Byte} {n crc : Word16} : Supervised true (sideCheck x c n crc s) := by
  unfold Machine.sideCheck lookUpEcho
  dsimp only
  repeat' split
  · exact h.gone.count
  · exact h.gone
  · exact h.gone.onSide.tagCheck.latencyCheck
  · exact h.raise

theorem echoArrived (h : Supervised false s) {c : Byte} {n crc : Word16} :
    Supervised false (echoArrived x c n crc s) := by
  unfold Machine.echoArrived
  dsimp only
  split
  · exact h.onSide
  · exact h.onSide.onSide.gone.sideCheck.settle

theorem echoByte (h : Supervised false s) {c : Byte} : Supervised false (echoByte x c s) := by
  unfold Machine.echoByte
  dsimp only
  repeat' split
  · exact h
  · exact h.onSide
  · exact h.echoArrived

/-! ### Geometry, signals and samples -/

theorem overrideSide (h : Supervised b s) {f : Geometry → Overrides} : Supervised b (overrideSide x f s) := by
  unfold Machine.overrideSide
  split
  · exact h
  · exact h.onSide

theorem endInspectSide (h : Supervised b s) : Supervised b (endInspectSide s x) := by
  unfold Machine.endInspectSide
  split
  · exact h.onSide
  · exact h

theorem freshnessExpired (h : Supervised b s) {sig : Signal} : Supervised false (freshnessExpired sig s) := by
  have overridden : Supervised b (Machine.overrideSide .right (fun g => staleOverrides sig g.overrides)
      (Machine.overrideSide .left (fun g => staleOverrides sig g.overrides)
        { s with signals := makeStale sig s.signals })) := h.congr.overrideSide.overrideSide
  unfold Machine.freshnessExpired
  dsimp only
  split
  · exact overridden.raisePart.settle
  · exact overridden.settle

theorem vehicleState (h : Supervised false s) (p : List Byte) : Supervised false (ownVehicleState p s).state := by
  obtain e | ⟨r, signals, f, g, e⟩ := ownVehicleState_cases p s
  · exact e.symm ▸ h
  · rw [e]
    have overridden : Supervised false (Machine.overrideSide .right g (Machine.overrideSide .left f
      { s with signals := signals })) := h.congr.overrideSide.overrideSide
    unfold clearSignalStale
    split
    · exact overridden.gonePart.settle
    · exact overridden.settle

theorem levelKind (h : Supervised b s) {k : FaultKind} {before now : Bool} (hk : kindScope k ≠ .side := by decide)
    (auto : latched k = false := by decide) : Supervised true (levelKind k before now s) := by
  unfold Machine.levelKind
  repeat' split
  · exact h.raisePart hk
  · exact h.gonePart hk auto
  · exact h.loosen

theorem sampleArrived (h : Supervised b s) {supply : Nat} {temperature : Int} :
    Supervised false (sampleArrived supply temperature s) :=
  (h.congr (t := { s with health := sampled supply temperature s.health, freeCount := s.freeCount + 1 })
    ).levelKind.levelKind.levelKind.levelKind.settle

/-! ### Starts and stops -/

theorem startSide (h : Supervised b s) : Supervised b (startSide s x) := by
  have blocks : Supervised b (s.onSide x (startBlocks x s.now s.timing s.signals)) := h.onSide
  have set : s.faults x = ((s.onSide x (startBlocks x s.now s.timing s.signals)).side x).sup.faults := by
    rw [State.side_onSide]
    rfl
  refine Supervised.submit (blocks.setView ?_)
  rw [set]
  exact nextView_startView _

theorem startIfOff (h : Supervised b s) : Supervised b (startIfOff s x) := by
  unfold Machine.startIfOff
  split
  · exact h.startSide
  · exact h

theorem stopSide (h : Supervised b s) : Supervised true (stopSide s x) := by
  rw [stopSide_eq]
  have removed := h.changed (x := x) (f := (s.faults x).without stopKinds)
    (l := removals x .plain (s.faults x) stopKinds)
    (fun k hk => by rw [FaultSet.without_get, if_neg fun e => hk (mem_stopKinds.1 e).1])
    ((h.sound x).without _) (told_removals x (s.faults x)).touched
  refine Supervised.submit ?_
  refine (removed.viewed (x := x) (d := stoppedBlocks x ((s.faults x).without stopKinds) (s.side x)) ?_ rfl).congr
    (by cases x <;> exact {}) (by cases x <;> exact {}) (by cases x <;> rfl)
  cases x <;> rfl

theorem stopIfRunning (h : Supervised b s) : Supervised true (stopIfRunning s x) := by
  unfold Machine.stopIfRunning
  split
  · exact h.loosen
  · exact h.stopSide

theorem standbySide (h : Supervised b s) : Supervised true (standbySide s x) := by
  unfold Machine.standbySide
  split
  · exact h.submit.loosen
  · exact h.stopSide

/-! ### The part states -/

theorem endQuiescing (h : Supervised b s) : Supervised b (endQuiescing s) := by
  rw [endQuiescing_eq]
  exact h.congr

/-- After a reset both sets are empty and both views OFF (R136, R141). -/
theorem volatileReset (s : State) : Supervised false (volatileReset s) := by
  have empty (k : FaultKind) : emptyFaults.get k = .absent := by cases k <;> rfl
  exact ⟨fun _ _ => rfl, fun | .left | .right => ⟨fun k hk => absurd ((empty k).symm.trans hk) (by decide), rfl⟩,
    fun | .left | .right => .inl rfl⟩

theorem deferredReset (h : Supervised false s) : Supervised false (deferredReset s) := by
  unfold Machine.deferredReset
  split
  · exact h
  · split
    · exact h
    · rw [makeReset, placeReply_eq]
      exact (volatileReset s).congr

theorem calibrated (h : Supervised b s) (bl br : Window) (ml mr : List (Option Nat)) (c : Word16) :
    Supervised b (s.calibrated bl br ml mr c) := h.congr

theorem initCalibration (h : Supervised b s) : Supervised true (initCalibration s) := by
  obtain ⟨bl, br, ml, mr, c, u, -, -, hu, e⟩ := initCalibration_cases s
  rw [e]
  obtain rfl | rfl := hu
  · exact h.loosen.calibrated ..
  · exact h.raisePart.calibrated ..

theorem applyProfile (h : Supervised b s) {p : Profile} : Supervised b (applyProfile p s) := h.congr

theorem loaded (h : Supervised b s) (p : Profile) : Supervised b (s.loaded p) := h.congr

theorem loadInitProfile (h : Supervised b s) : Supervised b (loadInitProfile s) := by
  rw [loadInitProfile_eq]
  exact h.loaded _

theorem setPart (h : Supervised b s) {p : PartState} : Supervised b (setPart p s) := h.congr

theorem initCompleted (h : Supervised b s) (wakeHigh : Bool) : Supervised false (initCompleted wakeHigh s) := by
  have woken : Supervised b (setWakeLine wakeHigh { s with link := { s.link with initTimer := none } }) := h.congr
  have active := woken.initCalibration.loadInitProfile.setPart (p := .active)
  unfold Machine.initCompleted startBoth streamOffBoth
  dsimp only
  split
  · exact active.startSide.startSide.settle
  · exact active.submit.submit.settle

theorem wakeExpired (h : Supervised b s) : Supervised b (wakeExpired s) := by
  unfold Machine.wakeExpired startBoth
  dsimp only
  split
  · exact h.congr.startSide.startSide
  · exact h.congr

theorem wakeLineRises (h : Supervised b s) : Supervised b (wakeLineRises s) := by
  have level : Supervised b (setWakeLine true s) := h.congr
  unfold Machine.wakeLineRises wakeEdge
  dsimp only
  repeat' split
  · exact level
  · exact level
  · exact level.startIfOff.startIfOff
  · exact level.congr
  · exact level.congr
  · exact level.congr

/-! ### The requests -/

/-- A HELD kind removed: it is of scope side, so the sets stay alike in the kinds of the part (R152). -/
theorem restoreKind (h : Supervised true s) {selector : Nat} {k : FaultKind} :
    Supervised true (restoreKind x selector s k) := by
  unfold Machine.restoreKind
  split
  · next named =>
    have held : (s.faults x).get k = .held := by
      rw [Bool.and_eq_true] at named
      exact beq_iff_eq.1 named.2
    obtain ⟨hl, hk⟩ := (h.sound x).held k held
    have scope := side_of_latched hl hk
    have removed := h.changed (x := x) (l := [⟨k, .cleared, recordScope k x, .restored⟩])
      (FaultSet.samePart_set (s.faults x) scope .absent) ((h.sound x).removed k)
      fun quiet => by simp [touched, recordScope, scope] at quiet
    exact removed.congr (by cases x <;> exact {}) (by cases x <;> exact {}) (by cases x <;> rfl)
  · exact h

/-- CALIBRATION_DAMAGED leaves both sets (R155). -/
theorem removeDamaged (h : Supervised b s) : Supervised true (removeDamaged s) :=
  h.changedBoth (f := fun y => (s.faults y).set .calibrationDamaged .absent)
    (l := [⟨.calibrationDamaged, .cleared, .device, .restored⟩]) (h.alike.set _ _) (fun y => (h.sound y).removed _)
    fun y quiet => by simp [touched] at quiet

theorem restoreView (h : Supervised false s) (p : List Byte) : Supervised false (ownRestoreView p s).state := by
  obtain e | ⟨selector, sides, e⟩ := ownRestoreView_cases p s
  · exact e.symm ▸ h
  · rw [e]
    have restored : Supervised true (sides.foldl (restoreSide selector) s) :=
      h.loosen.foldl (fun _ _ hu => hu.foldl (fun _ _ hv => hv.restoreKind) allKinds) sides
    refine Supervised.settle (b := true) ?_
    obtain e | ⟨bl, br, ml, mr, c, u, -, -, hu, e⟩ :=
      rereadIfNamed_cases selector sides (sides.foldl (restoreSide selector) s)
    · exact e.symm ▸ restored
    · rw [e]
      obtain rfl | rfl := hu
      · exact restored.calibrated ..
      · exact restored.removeDamaged.calibrated ..

theorem modify (h : Supervised b s) (shut : Bool) (w : StoreWork) : Supervised b (modify shut w s).state :=
  modify_keeps h h.congr (fun _ => h.congr) shut w

theorem own (h : Supervised false s) (k : RequestKind) (tag : Byte) (p : List Byte) :
    Supervised false (ownerOf k tag p s).state := by
  cases k with
  | status => exact h
  | identify => exact h
  | readGlare => exact (ownReadGlare_state p s).symm ▸ h
  | storeRead => exact (ownStoreRead_state p s).symm ▸ h
  | readHealth => exact h.congr
  | fetchReports => exact h.congr
  | vehicleState => exact h.vehicleState p
  | restoreView => exact h.restoreView p
  | storeLockFactory => exact h.modify _ _
  | standby => exact h.standbySide.standbySide.setPart.settle
  | wake =>
    change Supervised false (wakeRequested s)
    unfold wakeRequested
    repeat' split
    all_goals exact h.congr
  | reset =>
    obtain e | e := ownReset_cases tag s
    · exact e.symm ▸ h.congr
    · exact e.symm ▸ volatileReset s
  | startView =>
    obtain e | ⟨sides, -, -, e⟩ := ownStartView_cases p s
    · exact e.symm ▸ h
    · exact e.symm ▸ h.foldl (fun _ _ => startSide) sides
  | stopView =>
    obtain e | ⟨sides, e⟩ := ownStopView_cases p s
    · exact e.symm ▸ h
    · exact e.symm ▸ (h.loosen.foldl (fun _ _ => stopIfRunning) sides).settle
  | setTiming =>
    obtain e | ⟨t, -, -, e⟩ := ownSetTiming_cases p s
    · exact e.symm ▸ h
    · exact e.symm ▸ h.congr
  | adjustView =>
    obtain e | ⟨_, _, _, _, _, -, e⟩ := ownAdjustView_cases p s
    · exact e.symm ▸ h
    · exact e.symm ▸ h.onSide
  | inspect =>
    obtain e | ⟨_, _, _, -, e⟩ := ownInspect_cases p s
    · exact e.symm ▸ h
    · exact e.symm ▸ h.onSide
  | endInspect =>
    obtain e | ⟨sides, e⟩ := ownEndInspect_cases p s
    · exact e.symm ▸ h
    · exact e.symm ▸ h.foldl (fun _ _ => endInspectSide) sides
  | setGlare =>
    obtain e | ⟨g, sides, e⟩ := ownSetGlare_cases p s
    · exact e.symm ▸ h
    · exact e.symm ▸ h.foldl (fun _ _ hu => hu.onSide) sides
  | setTone =>
    obtain e | ⟨key, sides, e⟩ := ownSetTone_cases p s
    · exact e.symm ▸ h
    · exact e.symm ▸ h.foldl (fun _ _ hu => hu.onSide) sides
  | setExposureLimits =>
    obtain e | ⟨l, sides, e⟩ := ownSetExposureLimits_cases p s
    · exact e.symm ▸ h
    · exact e.symm ▸ h.foldl (fun _ _ hu => hu.onSide) sides
  | readCounters =>
    obtain e | ⟨sides, e⟩ := ownReadCounters_cases p s
    · exact e.symm ▸ h
    · exact e.symm ▸ h.foldl (fun _ _ hu => hu.onSide) sides
  | storeUnlock =>
    obtain e | e := ownStoreUnlock_cases s
    · exact e.symm ▸ h
    · exact e.symm ▸ h.congr
  | storeProtect =>
    obtain e | ⟨b, e⟩ := ownStoreProtect_cases p s
    · exact e.symm ▸ h
    · exact e.symm ▸ h.congr
  | storeWrite =>
    obtain e | ⟨shut, w, e⟩ := ownStoreWrite_cases p s
    · exact e.symm ▸ h
    · exact e.symm ▸ h.modify shut w
  | storeErase =>
    obtain e | ⟨shut, w, e⟩ := ownStoreErase_cases p s
    · exact e.symm ▸ h
    · exact e.symm ▸ h.modify shut w
  | saveProfile =>
    obtain e | ⟨shut, w, e⟩ := ownSaveProfile_cases p s
    · exact e.symm ▸ h
    · exact e.symm ▸ h.modify shut w
  | loadProfile =>
    obtain e | ⟨bytes, e⟩ := ownLoadProfile_cases p s
    · exact e.symm ▸ h
    · exact e.symm ▸ h.applyProfile

end Supervised

/-- Every command keeps the two laws. -/
theorem supervised_kept : Kept (Supervised false) where
  frame _ _ _ _ _ _ _ h := h.settledCongr
  tick _ _ h := h.settledCongr
  powerOn s := (Supervised.volatileReset s).congr
  powerLoss _ h := h.congr
  initCompletion w _ _ _ h := h.initCompleted w
  vsync _ _ _ _ h := h.vsyncExpired
  camTrigger _ _ _ _ h := h.camExpired.settle
  frameStart _ _ _ _ _ _ h := h.frameStart
  line _ _ _ _ h := h.lineArrived
  frameEnd _ _ _ h := h.frameEnd
  linkLost _ _ _ _ h := h.linkLostExpired
  exposureTaken _ _ _ h := h.takeExposure
  glareTaken _ _ _ h := h.takeGlare
  dispatch _ _ _ h := h.dispatch
  acknowledged _ _ _ h := h.acknowledged.settle.endQuiescing
  failed _ _ _ h := h.failed.settle.endQuiescing
  echo _ _ _ _ _ _ h := h.echoArrived
  echoByte _ _ _ _ h := h.echoByte
  echoTimer _ _ _ _ h := h.onSide.raise.settle
  echoIdle _ _ _ h := h.onSide
  startTimer _ _ _ _ h := h.onSide.raise.settle
  freshness _ _ _ h := h.freshnessExpired
  inspect _ _ _ _ h := h.onSide
  wakeTimer _ _ _ h := h.wakeExpired
  wakeLine _ _ h := h.wakeLineRises
  sample _ _ _ _ _ h := h.sampleArrived
  savePhase _ _ _ _ h := h.congr
  storeDone _ _ _ _ h := h.congr.deferredReset.endQuiescing
  deferredReset _ _ h := h.deferredReset
  endQuiescing _ _ h := h.endQuiescing
  own k tag p _ _ _ h := h.own k tag p

/-- Settles O7: `Supervised false` is the two laws, and every command keeps it. -/
theorem stepsKeepTheFaultAndViewLaws : Obligations.StepsKeepTheFaultAndViewLaws := fun s t F V e =>
  (supervised_iff t).1 (supervised_kept.step ((supervised_iff s).2 ⟨F, V⟩) e)

end Sys2Proof.Machine

/-! # Waking and coming to rest (O25, O26)

WAKE, and outside ACTIVE the wake line, change the link alone; the wake timer and, in ACTIVE, the wake line start sides
by the scheme of the requests that name sides. -/

namespace Sys2Proof.Machine

-- One proof at a time: elaborated in parallel, they take the whole text past the memory it is compiled in.
set_option Elab.async false

/-! ## Starts of both sides (R182, R183) -/

/-- A start changes its side and what is sent out, and nothing else. -/
theorem startSide_within (s : State) (x : Side) : ∃ d out, startSide s x = s.within x d out s.handed := by
  unfold startSide
  rw [setView_eq, admit_eq]
  cases x <;> exact ⟨_, _, rfl⟩

theorem startBoth_frame (s : State) :
    ∃ left right out, startBoth s = { s with left := left, right := right, out := out } := by
  obtain ⟨left, out, el⟩ := startSide_within s .left
  obtain ⟨right, out', er⟩ := startSide_within (startSide s .left) .right
  refine ⟨left, right, out', ?_⟩
  rw [startBoth, er, el]
  rfl

/-- Both sides, OFF before, after a start of both. -/
theorem startBoth_side {s : State} (off : ∀ x, (s.side x).sup.view = .off) (x : Side) :
    (startBoth s).side x = newStart x s := by
  obtain ⟨out, e⟩ := foldl_named localChange_start 2 (s := s) fun y _ => off y
  change startBoth s = _ at e
  rw [e]
  cases x <;> rfl

/-- A side after a rising edge of the wake line in ACTIVE: started if it was OFF (R183). -/
def newIfOff (x : Side) (s : State) : SideState :=
  if (s.side x).sup.view = .off then newStart x s else s.side x

theorem localChange_startIfOff : LocalChange (fun _ _ => True) startIfOff newIfOff fun _ _ => [] where
  eq u x _ := by
    unfold startIfOff newIfOff
    split
    · next off => exact localChange_start.eq u x off
    · exact ⟨u.out, by rw [List.append_nil, ← setSide_within, State.setSide_self]⟩
  ok_right _ _ _ _ h := h
  new_right _ _ _ _ := rfl
  told_right _ _ _ _ := rfl

theorem startIfOff_both {s : State} (hs : s.handed = []) : ∃ out, startIfOff (startIfOff s .left) .right =
    { s with left := newIfOff .left s, right := newIfOff .right s, out := out, handed := [] } := by
  obtain ⟨out, e⟩ := foldl_named localChange_startIfOff 2 (s := s) fun _ _ => trivial
  rw [hs] at e
  exact ⟨out, e⟩

/-! ## WAKE and the wake timer (O25) -/

/-- What WAKE leaves of the link, by the part state (R182). -/
def Link.woken (now : PartTime) (l : Link) : Link :=
  match l.part with
  | .init => l
  | .active => l
  | .quiescing => { l with pendingWake := some (l.pendingWake.getD .request) }
  | .standby =>
    if l.wakeTimer = none then { l with pendingWake := some .request, wakeTimer := some (after now 2000) } else l

theorem wakeRequested_eq (s : State) : wakeRequested s = { s with link := s.link.woken s.now } := by
  unfold wakeRequested Link.woken
  cases part : s.link.part with
  | init => rfl
  | active => rfl
  | quiescing =>
    simp only
    split
    · next free => simp only [setWake, Option.isNone_iff_eq_none.1 free, part, Option.getD_none]
    · next taken =>
      obtain ⟨w, pending⟩ := Option.ne_none_iff_exists'.1 fun e => taken (Option.isNone_iff_eq_none.2 e)
      rw [pending, Option.getD_some, ← pending, ← part]
  | standby =>
    simp only [Option.isNone_iff_eq_none]
    split
    · simp only [armWakeTimer, setWake, part]
    · rfl

theorem exec_wake {tag : Byte} {s : State} (h : Answerable .wake [] s) : exec (.wake tag []) s = .next { s with
    link := placedLink ((countedLink s.link).woken s.now) (replyFrame (kindCode .wake) tag .ok []),
    out := [requestOutput 0 s], handed := [] } :=
  exec_request_of_answer (k := .wake) tag h (congrArg (answer · .ok) (wakeRequested_eq (requestTaken 0 s)))

theorem exec_wakeTimerExpiry {s : State} (hp : s.powered = true) (hd : due s.link.wakeTimer s.now = true) :
    exec .wakeTimerExpiry s = .next (wakeExpired s.beginEvent) :=
  (event_powered hp _).trans (congrArg _ (if_pos hd))

/-- The part ACTIVE by the wake timer, before a side is started (R182). -/
def State.awake (s : State) : State :=
  { s with link := { s.link with part := .active, wakeTimer := none, pendingWake := none }, out := [], handed := [] }

theorem wakeExpired_eq (s : State) : wakeExpired s.beginEvent =
    if s.link.pendingWake = some .line then startBoth s.awake else s.awake := rfl

/-- Settles O25, by the part state and by whether a LINE is pending. -/
theorem wakeAndWakeTimerActByThePartState : Obligations.WakeAndWakeTimerActByThePartState := by
  refine ⟨fun tag s h => (exec_wake h).trans ?_, fun s hp hd => ?_⟩
  · unfold Link.woken
    cases part : s.link.part with
    | standby => cases timer : s.link.wakeTimer <;> simp [countedLink, placedLink, part, timer]
    | _ => simp [countedLink, placedLink, part]
  · refine ⟨_, exec_wakeTimerExpiry hp hd, ?_⟩
    rw [wakeExpired_eq]
    by_cases line : s.link.pendingWake = some .line
    · rw [if_pos line]
      obtain ⟨left, right, out, e⟩ := startBoth_frame s.awake
      refine ⟨?_, fun other => absurd line other, fun _ off x => ?_⟩
      · rw [e]
        rfl
      · have started := startBoth_side (s := s.awake) (fun | .left => off .left | .right => off .right) x
        rw [started, admit_channel]
        cases x <;> rfl
    · rw [if_neg line]
      exact ⟨rfl, fun _ => ⟨rfl, fun | .left | .right => rfl⟩, fun pending => absurd pending line⟩

/-! ## The wake line and the end of QUIESCING (O26) -/

theorem exec_wakeLineRisingEdge {s : State} (hp : s.powered = true) :
    exec .wakeLineRisingEdge s = .next (wakeLineRises s.beginEvent) := event_powered hp _

theorem exec_enterStandby {s : State} (hp : s.powered = true) :
    exec .enterStandby s = .next (endQuiescing s.beginEvent) := event_powered hp _

/-- The edge while no reset is pending acts by the part state. -/
theorem wakeLineRises_of_none {s : State} (h : s.link.resetPending = none) :
    wakeLineRises s = wakeEdge (setWakeLine true s) := by
  unfold wakeLineRises
  exact if_neg (by rw [show (setWakeLine true s).link.resetPending = none from h]; exact Bool.false_ne_true)

theorem wakeLineRises_idle {s : State} (h : s.link.resetPending.isSome = true ∨ s.link.part = .init) :
    wakeLineRises s = setWakeLine true s := by
  unfold wakeLineRises wakeEdge
  dsimp only
  split
  · rfl
  · next free =>
    have init : (setWakeLine true s).link.part = .init := h.resolve_left free
    simp only [init]

/-- A pending LINE, and in STANDBY a disarmed wake timer armed (R183). -/
theorem wakeEdge_quiescing {s : State} (h : s.link.part = .quiescing) : wakeEdge s = setWake .line s := by
  unfold wakeEdge
  simp only [h]

theorem wakeEdge_standby {s : State} (h : s.link.part = .standby) : wakeEdge s = { s with link := { s.link with
    pendingWake := some .line,
    wakeTimer := if s.link.wakeTimer = none then some (after s.now 2000) else s.link.wakeTimer } } := by
  unfold wakeEdge
  simp only [h]
  cases timer : s.link.wakeTimer <;> simp [armWakeTimer, setWake, timer, h]

theorem wakeEdge_active {s : State} (h : s.link.part = .active) :
    wakeEdge s = startIfOff (startIfOff s .left) .right := by
  unfold wakeEdge
  simp only [h]

theorem channel_quiet_iff (c : Channel) : c.quiet = true ↔ c.inFlight = none ∧ c.queue = [] := by
  simp [Channel.quiet]

/-- The part is at rest when both channels are quiet and no store operation is in flight. -/
theorem atRest_iff (s : State) : atRest s = true ↔
    (∀ x, (s.side x).channel.inFlight = none ∧ (s.side x).channel.queue = []) ∧ s.store.operation = none := by
  unfold atRest
  rw [Bool.and_eq_true, Bool.and_eq_true, channel_quiet_iff, channel_quiet_iff, Option.isNone_iff_eq_none]
  exact and_congr_left fun _ => ⟨fun h => fun | .left => h.1 | .right => h.2, fun h => ⟨h .left, h .right⟩⟩

/-- ENTER_STANDBY where the part is not QUIESCING, or not at rest. -/
theorem endQuiescing_busy {s : State} (h : s.link.part ≠ .quiescing ∨ s.store.operation.isSome = true ∨
    ∃ x, (s.side x).channel.inFlight.isSome = true ∨ (s.side x).channel.queue ≠ []) : endQuiescing s = s := by
  refine if_neg fun ⟨part, rest⟩ => ?_
  obtain ⟨quiet, idle⟩ := (atRest_iff s).1 rest
  obtain other | store | ⟨x, flight | queue⟩ := h
  · exact other part
  · rw [idle] at store
    exact absurd store Bool.false_ne_true
  · rw [(quiet x).1] at flight
    exact absurd flight Bool.false_ne_true
  · exact queue (quiet x).2

/-- Settles O26, by the part state and by whether the part is at rest. -/
theorem wakeLineActsByThePartStateAndStandbyComesAtRest :
    Obligations.WakeLineActsByThePartStateAndStandbyComesAtRest := by
  intro s hp
  have edge (free : s.link.resetPending = none) :
      exec .wakeLineRisingEdge s = .next (wakeEdge (setWakeLine true s.beginEvent)) :=
    (exec_wakeLineRisingEdge hp).trans (congrArg _ (wakeLineRises_of_none (s := s.beginEvent) free))
  refine ⟨⟨fun idle => ?_, fun free => ⟨fun part => ?_, fun part => ?_, fun part => ?_⟩⟩,
    fun part quiet store => ?_, fun busy => ?_⟩
  · exact (exec_wakeLineRisingEdge hp).trans (congrArg _ (wakeLineRises_idle (s := s.beginEvent) idle))
  · exact (edge free).trans (congrArg _ (wakeEdge_quiescing (s := setWakeLine true s.beginEvent) part))
  · exact (edge free).trans (congrArg _ (wakeEdge_standby (s := setWakeLine true s.beginEvent) part))
  · obtain ⟨out, e⟩ := startIfOff_both (s := setWakeLine true s.beginEvent) rfl
    have active := wakeEdge_active (s := setWakeLine true s.beginEvent) part
    refine ⟨_, (edge free).trans (congrArg _ (active.trans e)), rfl, fun x => ?_⟩
    rw [admit_channel]
    cases x <;> rfl
  · have rest : atRest s.beginEvent = true :=
      (atRest_iff s.beginEvent).2 ⟨fun | .left => quiet .left | .right => quiet .right, store⟩
    rw [exec_enterStandby hp, endQuiescing, if_pos ⟨part, rest⟩]
    rfl
  · refine (exec_enterStandby hp).trans (congrArg _ (endQuiescing_busy (s := s.beginEvent) ?_))
    exact busy.imp_right (Or.imp_right fun ⟨x, h⟩ => ⟨x, by rwa [State.beginEvent_side]⟩)

end Sys2Proof.Machine

/-! # Samples (O49)

A sample raises or tells gone up to four kinds of scope device, one after the other. `Tells` says that the transitions
handed on so far tell what changed in both sets, so that each level adds its own; `settle_withSets` gives the clauses of
any event that changes sets alone before it settles. -/

namespace Sys2Proof.Machine

-- One proof at a time: elaborated in parallel, they take the whole text past the memory it is compiled in.
set_option Elab.async false

/-! ## What the transitions of an event tell of both sets -/

/-- A list of transitions tells each change of both sets, from those of a state to the sets given, exactly once. -/
def Tells (removed : FlagClass) (s : State) (f : Side → FaultSet) (l : List Transition) : Prop :=
  l.Nodup ∧ ∀ u : Transition, u ∈ l ↔
    ∃ x, u.scope = (if kindScope u.kind = .side then sideScope x else .device) ∧
      memberChange removed ((s.faults x).get u.kind) ((f x).get u.kind) = some (u.direction, u.flag)

section
variable {removed : FlagClass} {s : State} {f g : Side → FaultSet} {l : List Transition}

theorem tells_nil (removed : FlagClass) (s : State) : Tells removed s s.faults [] :=
  ⟨.nil, fun u => by simp [memberChange_self]⟩

theorem Tells.handedOn (T : Tells removed s f l) {t : State} (hl : t.handed = l) (hf : ∀ x, t.faults x = f x) :
    HandedOn removed [] s t := by
  unfold HandedOn
  rw [hl]
  simp only [hf, List.not_mem_nil, false_or]
  exact T

/-- A set that the transitions do not touch is as before. -/
theorem Tells.untouched (T : Tells removed s f l) {x : Side} (h : touched x l = false) : f x = s.faults x := by
  refine FaultSet.ext_get fun k => ?_
  cases hc : memberChange removed ((s.faults x).get k) ((f x).get k) with
  | none => exact memberChange_eq_none hc
  | some change =>
    have told := (T.2 ⟨k, change.1, if kindScope k = .side then sideScope x else .device, change.2⟩).2 ⟨x, rfl, hc⟩
    have quiet := List.any_eq_false.1 h _ told
    split at quiet <;> simp at quiet

/-- A kind of the part not told of yet changes alike in both sets, and its transition is handed on. -/
theorem Tells.device (T : Tells removed s f l) {k : FaultKind} {l' : List Transition} (hk : kindScope k ≠ .side)
    (same : ∀ x, (f x).get k = (s.faults x).get k) (other : ∀ x, ∀ j ≠ k, (g x).get j = (f x).get j)
    (change : ∃ c : Option (Direction × FlagClass),
      (∀ x, memberChange removed ((s.faults x).get k) ((g x).get k) = c) ∧
        l' = c.toList.map fun p => ⟨k, p.1, .device, p.2⟩) : Tells removed s g (l ++ l') := by
  obtain ⟨c, change, rfl⟩ := change
  have about {u : Transition} (hu : u ∈ c.toList.map fun p => (⟨k, p.1, .device, p.2⟩ : Transition)) :
      u.kind = k := by
    obtain ⟨p, -, rfl⟩ := List.mem_map.1 hu
    rfl
  have fresh {u : Transition} (hu : u ∈ l) : u.kind ≠ k := by
    rintro rfl
    obtain ⟨x, -, hm⟩ := (T.2 u).1 hu
    rw [same, memberChange_self] at hm
    exact nomatch hm
  refine ⟨List.nodup_append.2 ⟨T.1, by cases c <;> simp, fun u hu v hv e => fresh hu (e ▸ about hv)⟩,
    fun u => ?_⟩
  rw [List.mem_append]
  by_cases kind : u.kind = k
  · rw [or_iff_right fun hu => fresh hu kind]
    obtain ⟨_, direction, scope, flag⟩ := u
    obtain rfl := kind
    have : Nonempty Side := ⟨.left⟩
    simp only [if_neg hk, change, exists_const]
    cases c <;> simp [Prod.ext_iff, eq_comm, and_left_comm]
  · rw [or_iff_left fun hu => kind (about hu), T.2]
    simp only [other _ _ kind]

/-! ## An event that changes sets before it settles -/

/-- A state with both sets and the transitions handed on replaced. -/
def State.withSets (s : State) (f : Side → FaultSet) (l : List Transition) : State :=
  { s with left := s.left.withFaults (f .left), right := s.right.withFaults (f .right), handed := l }

theorem withSets_side (s : State) (f : Side → FaultSet) (l : List Transition) (x : Side) :
    (s.withSets f l).side x = (s.side x).withFaults (f x) := by
  cases x <;> rfl

theorem withSets_self {s : State} (hs : s.handed = []) : s.withSets s.faults [] = s := by
  rw [State.withSets, ← hs]
  rfl

@[simp] theorem withSets_faults (s : State) (f : Side → FaultSet) (l : List Transition) :
    (s.withSets f l).faults = f := by
  funext x; cases x <;> rfl

/-- The state that an event settles, but for its sets and its record: part time, the reports, the supervision and the
map of each side are those in which the event began. -/
structure Underlies (s u : State) : Prop where
  now : u.now = s.now
  reports : u.reports = s.reports
  sup : ∀ x, (u.side x).sup = (s.side x).sup
  gain : ∀ x, (u.side x).gain = (s.side x).gain

theorem Underlies.faults {u : State} (U : Underlies s u) (x : Side) : u.faults x = s.faults x :=
  congrArg Supervision.faults (U.sup x)

theorem FaultLaw.congr {u : State} (F : FaultLaw s) (h : ∀ x, u.faults x = s.faults x) : FaultLaw u := by
  unfold FaultLaw
  simp only [h]
  exact F

theorem Tells.congr {u : State} (T : Tells removed u f l) (h : ∀ x, u.faults x = s.faults x) :
    Tells removed s f l := by
  simpa only [Tells, h] using T

/-- What the settled event leaves. -/
theorem settle_withSets {u : State} (T : Tells removed s f l) (V : ViewLaw s) (U : Underlies s u) :
    ∃ t, settle (u.withSets f l) = t ∧ Reported s t ∧ HandedOn removed [] s t ∧
      t = { u with left := t.left, right := t.right, reports := t.reports, handed := t.handed } ∧
      ∀ x, ViewFollows x s t ∧ MapFollows x s t ∧ t.faults x = f x ∧
        t.side x = { u.side x with
          sup := { (u.side x).sup with view := (t.side x).sup.view, faults := t.faults x },
          gain := (t.side x).gain } := by
  have faults x : (settle (u.withSets f l)).faults x = f x := by rw [settle_faults, withSets_faults]
  have view x : ((u.withSets f l).side x).sup.view = (s.side x).sup.view := by
    rw [withSets_side, ← U.sup]
    rfl
  have gain x : ((u.withSets f l).side x).gain = (s.side x).gain := by
    rw [withSets_side, ← U.gain]
    rfl
  refine ⟨_, rfl, reported_settle U.now U.reports, T.handedOn (settle_handed _) faults, ?_, fun x =>
    ⟨viewFollows_settle V (view x) fun h => ?_, mapFollows_settle (view x) (gain x), faults x, ?_⟩⟩
  · rw [settle_eq]
    rfl
  · rw [withSets_faults]
    exact T.untouched h
  · rw [faults, settle_side, withSets_side]
    rfl

end

/-! ## The four levels (R164) -/

/-- A set after a level was entered, left, or neither. -/
def levelSet (k : FaultKind) (before now : Bool) (f : FaultSet) : FaultSet :=
  if now && !before then raisedIn f k else if before && !now then goneIn f k else f

theorem levelSet_get (j k : FaultKind) (before now : Bool) (f : FaultSet) : (levelSet k before now f).get j =
    if j = k then
      (if now && !before then .active else if before && !now then (goneIn f k).get k else f.get k)
    else f.get j := by
  unfold levelSet
  by_cases same : j = k
  · subst same
    rw [if_pos rfl]
    split
    · rw [raisedIn_get, if_pos rfl]
    · split <;> rfl
  · rw [if_neg same]
    split
    · rw [raisedIn_get, if_neg same]
    · split
      · rw [goneIn_get, if_neg fun e => same e.1]
      · rfl

/-- The kind of a level, told for both sets. -/
theorem levelKind_device {k : FaultKind} {u : State} (before now : Bool) (hk : kindScope k ≠ .side)
    (auto : latched k = false) (alike : ∀ x, (u.faults x).get k = (u.faults .left).get k) :
    ∃ l, DeviceTold u k (fun x => levelSet k before now (u.faults x)) l ∧ levelKind k before now u =
      u.withSets (fun x => levelSet k before now (u.faults x)) (u.handed ++ l) := by
  have both : ((u.faults .left).get k = .active ∧ (u.faults .right).get k = .active) =
      ((u.faults .left).get k = .active) := by rw [alike .right, and_self]
  unfold levelKind levelSet
  split
  · refine ⟨_, DeviceTold.raised hk alike, ?_⟩
    rw [raisePart_eq]
    simp only [both]
    rfl
  · split
    · exact ⟨_, DeviceTold.gone hk auto alike, gonePart_eq auto (alike .right).symm⟩
    · exact ⟨[], DeviceTold.nothing u hk, by rw [List.append_nil]; rfl⟩

/-- One level more, of a kind not told of yet. -/
theorem levelKind_withSets {s : State} {f : Side → FaultSet} {l : List Transition} {k : FaultKind}
    (T : Tells .plain s f l) (F : FaultLaw s) (before now : Bool) (hk : kindScope k ≠ .side) (auto : latched k = false)
    (same : ∀ x, (f x).get k = (s.faults x).get k) :
    ∃ l', levelKind k before now (s.withSets f l) = s.withSets (fun x => levelSet k before now (f x)) l' ∧
      Tells .plain s (fun x => levelSet k before now (f x)) l' := by
  obtain ⟨told, D, e⟩ := levelKind_device (u := s.withSets f l) before now hk auto fun x => by
    rw [withSets_faults, same, same, F.alike hk]
  rw [withSets_faults] at D e
  obtain ⟨c, change, rfl⟩ := D.change
  refine ⟨_, e, T.device hk same (fun x j hj => by rw [levelSet_get, if_neg hj]) ⟨c, fun x => ?_, rfl⟩⟩
  have := change x
  rwa [withSets_faults, same] at this

/-- A set after the four levels of a sample. -/
def sampledSet (before now : Levels) (f : FaultSet) : FaultSet :=
  levelSet .tempCritical before.tempCrit now.tempCrit (levelSet .tempHigh before.tempHigh now.tempHigh
    (levelSet .supplyCritical before.supplyCrit now.supplyCrit (levelSet .supplyLow before.supplyLow now.supplyLow f)))

/-- The four levels, each of a kind of its own. -/
theorem levelKinds_withSets {s : State} (F : FaultLaw s) (before now : Levels) (hs : s.handed = []) :
    ∃ l, levelKind .tempCritical before.tempCrit now.tempCrit (levelKind .tempHigh before.tempHigh now.tempHigh
        (levelKind .supplyCritical before.supplyCrit now.supplyCrit
          (levelKind .supplyLow before.supplyLow now.supplyLow s))) =
        s.withSets (fun x => sampledSet before now (s.faults x)) l ∧
      Tells .plain s (fun x => sampledSet before now (s.faults x)) l := by
  obtain ⟨l1, e1, T1⟩ := levelKind_withSets (k := .supplyLow) (tells_nil .plain s) F before.supplyLow now.supplyLow
    (by decide) rfl fun _ => rfl
  obtain ⟨l2, e2, T2⟩ := levelKind_withSets (k := .supplyCritical) T1 F before.supplyCrit now.supplyCrit (by decide)
    rfl fun _ => by simp [levelSet_get]
  obtain ⟨l3, e3, T3⟩ := levelKind_withSets (k := .tempHigh) T2 F before.tempHigh now.tempHigh (by decide) rfl
    fun _ => by simp [levelSet_get]
  obtain ⟨l4, e4, T4⟩ := levelKind_withSets (k := .tempCritical) T3 F before.tempCrit now.tempCrit (by decide) rfl
    fun _ => by simp [levelSet_get]
  rw [withSets_self hs] at e1
  exact ⟨l4, by rw [e1, e2, e3, e4]; rfl, T4⟩

/-- How each kind stands in the set after a sample. -/
theorem sampledSet_get (before now : Levels) (f : FaultSet) :
    let stands := fun (k : FaultKind) (old new : Bool) => (sampledSet before now f).get k =
      if new && !old then .active else if old && !new then (goneIn f k).get k else f.get k
    (stands .supplyLow before.supplyLow now.supplyLow ∧ stands .supplyCritical before.supplyCrit now.supplyCrit ∧
        stands .tempHigh before.tempHigh now.tempHigh ∧ stands .tempCritical before.tempCrit now.tempCrit) ∧
      ∀ k, k ∉ [FaultKind.supplyLow, .supplyCritical, .tempHigh, .tempCritical] →
        (sampledSet before now f).get k = f.get k := by
  unfold sampledSet
  refine ⟨⟨?_, ?_, ?_, ?_⟩, fun k hk => ?_⟩
  · simp [levelSet_get]
  · simp [levelSet_get, goneIn_get]
  · simp [levelSet_get, goneIn_get]
  · simp [levelSet_get, goneIn_get]
  · simp only [List.mem_cons, List.not_mem_nil, or_false, not_or] at hk
    obtain ⟨h1, h2, h3, h4⟩ := hk
    rw [levelSet_get, if_neg h4, levelSet_get, if_neg h3, levelSet_get, if_neg h2, levelSet_get, if_neg h1]

/-! ## The event (R163) -/

/-- The monitor after a sample, its extremes written out. -/
theorem sampled_eq (supply : Nat) (temperature : Int) (h : Health) : sampled supply temperature h =
    { nextSample := after h.nextSample 1000,
      supply := some supply, temperature := some temperature, thresholds := h.thresholds,
      minSupply := some ((h.minSupply.map fun m => min m supply).getD supply),
      maxTemperature := some ((h.maxTemperature.map fun m => max m temperature).getD temperature),
      entered := levelsAfter h.thresholds supply temperature h.entered,
      sticky := stickyAfter h.entered (levelsAfter h.thresholds supply temperature h.entered) h.sticky } := by
  unfold sampled
  cases h.minSupply <;> cases h.maxTemperature <;> rfl

/-- The part with the monitor as a sample leaves it, before any kind is raised or told gone. -/
def State.measured (s : State) (h : Health) : State :=
  { s with health := h, freeCount := s.freeCount + 1, out := [], handed := [] }

theorem measured_side (s : State) (h : Health) (x : Side) : (s.measured h).side x = s.side x := by
  cases x <;> rfl

theorem underlies_measured (s : State) (h : Health) : Underlies s (s.measured h) where
  now := rfl
  reports := rfl
  sup x := by rw [measured_side]
  gain x := by rw [measured_side]

/-- The four levels told, and the event settled. -/
theorem settle_levels {s : State} (before : Levels) (h : Health) (F : FaultLaw s) (V : ViewLaw s) :
    ∃ t, settle (levelKind .tempCritical before.tempCrit h.entered.tempCrit
        (levelKind .tempHigh before.tempHigh h.entered.tempHigh
          (levelKind .supplyCritical before.supplyCrit h.entered.supplyCrit
            (levelKind .supplyLow before.supplyLow h.entered.supplyLow (s.measured h))))) = t ∧
      Reported s t ∧ HandedOn .plain [] s t ∧
      t = { s with
        left := t.left, right := t.right, health := h, reports := t.reports, out := [], handed := t.handed,
        freeCount := s.freeCount + 1 } ∧
      ∀ x, ViewFollows x s t ∧ MapFollows x s t ∧ t.faults x = sampledSet before h.entered (s.faults x) ∧
        t.side x = { s.side x with
          sup := { (s.side x).sup with view := (t.side x).sup.view, faults := t.faults x },
          gain := (t.side x).gain } := by
  have U := underlies_measured s h
  obtain ⟨l, e, T⟩ := levelKinds_withSets (F.congr U.faults) before h.entered rfl
  obtain ⟨t, settled, reported, handedOn, rest, sides⟩ := settle_withSets (T.congr U.faults) V U
  refine ⟨t, (congrArg settle e).trans settled, reported, handedOn, rest, fun x => ?_⟩
  obtain ⟨view, map, faults, side⟩ := sides x
  rw [U.faults] at faults
  rw [measured_side] at side
  exact ⟨view, map, faults, side⟩

theorem exec_sample {supply : Nat} {temperature : Int} {s : State} (hp : s.powered = true)
    (hd : due (some s.health.nextSample) s.now = true) :
    exec (.sample supply temperature) s = .next (sampleArrived supply temperature s.beginEvent) :=
  (event_powered hp _).trans (congrArg _ (if_pos hd))

/-- A sample that is due. -/
theorem sample_taken {s : State} (supply : Nat) (temperature : Int) (hp : s.powered = true)
    (hd : due (some s.health.nextSample) s.now = true) (F : FaultLaw s) (V : ViewLaw s) :
    ∃ t, exec (.sample supply temperature) s = .next t ∧ Reported s t ∧ HandedOn .plain [] s t ∧
      t = { s with
        left := t.left, right := t.right, health := sampled supply temperature s.health, reports := t.reports,
        out := [], handed := t.handed, freeCount := s.freeCount + 1 } ∧
      ∀ x, ViewFollows x s t ∧ MapFollows x s t ∧
        t.faults x = sampledSet s.health.entered (sampled supply temperature s.health).entered (s.faults x) ∧
        t.side x = { s.side x with
          sup := { (s.side x).sup with view := (t.side x).sup.view, faults := t.faults x },
          gain := (t.side x).gain } := by
  obtain ⟨t, settled, rest⟩ := settle_levels s.health.entered (sampled supply temperature s.health) F V
  exact ⟨t, (exec_sample hp hd).trans (congrArg _ settled), rest⟩

/-- Settles O49: `sample_taken` with the levels and the kinds written out; the part's own sample is among the events
due. -/
theorem sampleMovesLevelsExtremesAndKinds : Obligations.SampleMovesLevelsExtremesAndKinds := by
  refine ⟨fun supply temperature s hp hd F V => ?_, fun s hp => ⟨fun early supply temperature => ?_, fun hd => ?_⟩⟩
  · obtain ⟨t, taken, reported, handedOn, rest, sides⟩ := sample_taken supply temperature hp hd F V
    have health : t.health = sampled supply temperature s.health := by rw [rest]
    rw [← health] at rest
    refine ⟨t, taken, reported, handedOn, rest, health.trans (sampled_eq ..), fun x => ?_⟩
    obtain ⟨view, map, faults, side⟩ := sides x
    refine ⟨view, map, side, ?_⟩
    rw [faults]
    exact sampledSet_get _ _ _
  · exact (event_powered hp _).trans (congrArg _ (if_neg fun h => by
      exact absurd (h.symm.trans early) (by decide)))
  · have own : ownSample s ∈ dueEvents s := by
      have sample : sampleDue s = true := hd
      simp [dueEvents, partDue, offer, hp, sample]
    have supply := (Config.supplyReading s.freeCount).isLt
    have temperature := (Config.temperatureReading s.freeCount).isLt
    exact ⟨_, _, own, by omega, by omega, by omega⟩

end Sys2Proof.Machine

/-! # RESTORE_VIEW (O57)

The HELD kinds that the selector names leave the sets of the sides named, each told under its side; then the
calibration may be read again, which changes the geometry of both sides and, if its CRC checks, takes
CALIBRATION_DAMAGED out of both sets. The 1,024 bytes stay named throughout. -/

namespace Sys2Proof.Machine

-- One proof at a time: elaborated in parallel, they take the whole text past the memory it is compiled in.
set_option Elab.async false

/-! ## The HELD kinds that are removed (R152) -/

theorem selects_iff (selector : Nat) (k : FaultKind) :
    selects selector k = decide (selector = 0 ∨ selector = kindNumber k) := by
  rw [Bool.eq_iff_iff]
  simp [selects]

/-- The HELD kinds of a set that a selector names. -/
def heldKinds (selector : Nat) (f : FaultSet) : List FaultKind :=
  allKinds.filter fun k => selects selector k && f.get k == .held

theorem mem_heldKinds {selector : Nat} {f : FaultSet} {k : FaultKind} :
    k ∈ heldKinds selector f ↔ selects selector k = true ∧ f.get k = .held := by
  have all : k ∈ allKinds := by cases k <;> decide
  simp [heldKinds, all]

theorem heldKinds_nodup (selector : Nat) (f : FaultSet) : (heldKinds selector f).Nodup :=
  List.Nodup.filter _ (by decide)

/-- Restoring a list of distinct kinds is removing those of them that are HELD and named. -/
theorem restoreKinds_eq (x : Side) (selector : Nat) {l : List FaultKind} (distinct : l.Nodup) (s : State) :
    l.foldl (restoreKind x selector) s =
      (l.filter fun k => selects selector k && (s.faults x).get k == .held).foldl (removeKind x .restored) s := by
  induction l generalizing s with
  | nil => rfl
  | cons k l ih =>
    obtain ⟨hk, hl⟩ := List.nodup_cons.1 distinct
    rw [List.foldl_cons, ih hl, restoreKind]
    by_cases held : (selects selector k && (s.faults x).get k == .held) = true
    · have stands : (s.faults x).stands k = true := by
        rw [Bool.and_eq_true, beq_iff_eq] at held
        simp [FaultSet.stands, held.2]
      have removed : removeKind x .restored s k =
          (s.setFault x k .absent).hand ⟨k, .cleared, recordScope k x, .restored⟩ := if_pos stands
      rw [if_pos held, List.filter_cons, if_pos held, List.foldl_cons, removed]
      refine congrArg (List.foldl _ _) (List.filter_congr fun j hj => ?_)
      have other : j ≠ k := fun e => hk (e ▸ hj)
      rw [State.hand_faults, State.faults_setFault_self, FaultSet.get_set_of_ne _ _ other]
    · rw [if_neg held, List.filter_cons, if_neg held]

theorem restoreSide_eq (selector : Nat) (s : State) (x : Side) : restoreSide selector s x =
    { s.setSide x ((s.side x).withFaults ((s.faults x).without (heldKinds selector (s.faults x)))) with
      handed := s.handed ++ removals x .restored (s.faults x) (heldKinds selector (s.faults x)) } := by
  rw [restoreSide, restoreKinds_eq x selector (by decide)]
  exact removeKinds_eq x .restored (heldKinds_nodup selector _) s

/-- The kinds that leave the set of a side. -/
def restoredKinds (n selector : Nat) (s : State) (x : Side) : List FaultKind :=
  if names n x then heldKinds selector (s.faults x) else []

/-- The sets once the kinds have left. -/
def restoredSets (n selector : Nat) (s : State) (x : Side) : FaultSet :=
  (s.faults x).without (restoredKinds n selector s x)

/-- What the removals hand on. -/
def restoredTold (n selector : Nat) (s : State) : List Transition :=
  removals .left .restored (s.faults .left) (restoredKinds n selector s .left) ++
    removals .right .restored (s.faults .right) (restoredKinds n selector s .right)

theorem restoreSides_eq (n selector : Nat) {s : State} (hs : s.handed = []) :
    (namedList n).foldl (restoreSide selector) s =
      s.withSets (restoredSets n selector s) (restoredTold n selector s) := by
  have left (u : State) : restoreSide selector u .left = { u with
      left := u.left.withFaults ((u.faults .left).without (heldKinds selector (u.faults .left))),
      handed := u.handed ++ removals .left .restored (u.faults .left) (heldKinds selector (u.faults .left)) } :=
    restoreSide_eq selector u .left
  have right (u : State) : restoreSide selector u .right = { u with
      right := u.right.withFaults ((u.faults .right).without (heldKinds selector (u.faults .right))),
      handed := u.handed ++ removals .right .restored (u.faults .right) (heldKinds selector (u.faults .right)) } :=
    restoreSide_eq selector u .right
  unfold namedList State.withSets restoredSets restoredTold restoredKinds
  cases names n .left <;> cases names n .right
  · exact (withSets_self hs).symm
  · exact (right s).trans (by rw [hs]; rfl)
  · refine (left s).trans ?_
    rw [hs, List.nil_append, ← List.append_nil (removals .left .restored (s.faults .left) (heldKinds ..))]
    rfl
  · exact (right _).trans (by rw [left, hs]; rfl)

theorem mem_restoredKinds {n selector : Nat} {s : State} {x : Side} {k : FaultKind} :
    k ∈ restoredKinds n selector s x ↔
      names n x = true ∧ selects selector k = true ∧ (s.faults x).get k = .held := by
  unfold restoredKinds
  split
  · next named => rw [mem_heldKinds, and_iff_right named]
  · next other => simp [other]

theorem restoredSets_get (n selector : Nat) (s : State) (x : Side) (k : FaultKind) :
    (restoredSets n selector s x).get k =
      if names n x = true ∧ selects selector k = true ∧ (s.faults x).get k = .held then .absent
      else (s.faults x).get k := by
  unfold restoredSets
  rw [FaultSet.without_get]
  simp only [mem_restoredKinds]

theorem mem_removals_restored {n selector : Nat} {s : State} {x : Side} {u : Transition} :
    u ∈ removals x .restored (s.faults x) (restoredKinds n selector s x) ↔
      u.kind ∈ restoredKinds n selector s x ∧ u.direction = .cleared ∧ u.scope = recordScope u.kind x ∧
        u.flag = .restored := by
  unfold removals
  rw [List.mem_map]
  constructor
  · rintro ⟨k, hk, rfl⟩
    exact ⟨(List.mem_filter.1 hk).1, rfl, rfl, rfl⟩
  · rintro ⟨hk, direction, scope, flag⟩
    have stands : (s.faults x).stands u.kind = true := by simp [FaultSet.stands, (mem_restoredKinds.1 hk).2.2]
    exact ⟨u.kind, List.mem_filter.2 ⟨hk, stands⟩, by rw [← direction, ← scope, ← flag]⟩

theorem recordScope_eq (k : FaultKind) (x : Side) :
    recordScope k x = if kindScope k = .side then sideScope x else .device := by
  unfold recordScope
  cases kindScope k <;> rfl

/-- The removals of both sides tell what they change; only a LATCHED kind of scope side is HELD. -/
theorem tells_restored (n selector : Nat) {s : State} (F : FaultLaw s) :
    Tells .restored s (restoredSets n selector s) (restoredTold n selector s) := by
  have scope {x : Side} {u : Transition}
      (hu : u ∈ removals x .restored (s.faults x) (restoredKinds n selector s x)) : u.scope = sideScope x := by
    obtain ⟨hk, -, hs, -⟩ := mem_removals_restored.1 hu
    obtain ⟨hl, hd⟩ := (F.2 x).1 _ (mem_restoredKinds.1 hk).2.2
    rw [hs, recordScope_eq, if_pos (side_of_latched hl hd)]
  have nodup x : (removals x .restored (s.faults x) (restoredKinds n selector s x)).Nodup := by
    refine List.Nodup.map (fun _ _ e => congrArg Transition.kind e) (List.Nodup.filter _ ?_)
    unfold restoredKinds
    split
    · exact heldKinds_nodup selector _
    · exact .nil
  have one (x : Side) (u : Transition) : u ∈ removals x .restored (s.faults x) (restoredKinds n selector s x) ↔
      u.scope = (if kindScope u.kind = .side then sideScope x else .device) ∧
        memberChange .restored ((s.faults x).get u.kind) ((restoredSets n selector s x).get u.kind) =
          some (u.direction, u.flag) := by
    rw [mem_removals_restored, restoredSets, FaultSet.without_get, recordScope_eq]
    by_cases hk : u.kind ∈ restoredKinds n selector s x
    · have held := (mem_restoredKinds.1 hk).2.2
      simp [hk, held, memberChange, and_left_comm, eq_comm]
    · simp [hk, memberChange_self]
  refine ⟨List.nodup_append.2 ⟨nodup _, nodup _, fun u hu v hv e => ?_⟩, fun u => ?_⟩
  · have := (scope hu).symm.trans ((congrArg Transition.scope e).trans (scope hv))
    exact absurd this (by decide)
  · rw [restoredTold, List.mem_append, one, one]
    exact ⟨fun h => h.elim (fun h => ⟨.left, h⟩) fun h => ⟨.right, h⟩,
      fun | ⟨.left, h⟩ => .inl h | ⟨.right, h⟩ => .inr h⟩

/-! ## The calibration read again (R155) -/

/-- Whether the calibration is read again: the selector names CALIBRATION_DAMAGED, no store operation is in flight, and
the kind stands in the set of a side named. -/
def rereads (n selector : Nat) (s : State) : Bool :=
  selects selector .calibrationDamaged && s.store.operation.isNone &&
    [Side.left, .right].any fun x => names n x && (s.faults x).stands .calibrationDamaged

/-- A side with the bounds and the marker rows of the calibration bytes. -/
def SideState.recalibrated (b : List Byte) (x : Side) (d : SideState) : SideState :=
  { d with geometry := boundedGeometry x (initBounds b x) (initMarkers b x) d.geometry }

/-- The part with the bounds, the marker rows and the part code of the calibration bytes. -/
def State.recalibrated (b : List Byte) (s : State) : State :=
  { s with
    left := s.left.recalibrated b .left, right := s.right.recalibrated b .right,
    link := { s.link with partCode := initPartCode b } }

/-- The sets without CALIBRATION_DAMAGED. -/
def mendedSets (f : Side → FaultSet) (x : Side) : FaultSet := (f x).set .calibrationDamaged .absent

theorem reread_eq {s : State} {b : List Byte} (hb : calibrationCells s.store.cells = b) (f : Side → FaultSet)
    (l : List Transition) : reread (s.withSets f l) = (s.recalibrated b).withSets
      (if calibrationGood b then mendedSets f else f)
      (l ++ if calibrationGood b then [⟨.calibrationDamaged, .cleared, .device, .restored⟩] else []) := by
  unfold reread
  rw [show calibrationCells (s.withSets f l).store.cells = b from hb]
  dsimp only
  split
  · next good =>
    unfold takeCalibration State.recalibrated SideState.recalibrated initBounds initMarkers initPartCode
    simp only [storedBounds_left, storedBounds_right, storedMarkers_left, storedMarkers_right, good, if_true]
    rfl
  · next bad =>
    unfold refuseCalibration State.recalibrated SideState.recalibrated initBounds initMarkers initPartCode
    simp only [bad, List.append_nil]
    rfl

/-- The kind does not leave by being HELD, so what decides on the re-read is the set as it was. -/
theorem stands_restored {n selector : Nat} {s : State} (F : FaultLaw s) (x : Side) :
    (restoredSets n selector s x).stands .calibrationDamaged = (s.faults x).stands .calibrationDamaged := by
  have free : (s.faults x).get .calibrationDamaged ≠ .held := fun held => ((F.2 x).1 _ held).2 rfl
  unfold FaultSet.stands
  rw [restoredSets_get, if_neg fun h => free h.2.2]

theorem rereadIfNamed_eq {n selector : Nat} {s : State} {b : List Byte} (F : FaultLaw s)
    (hb : calibrationCells s.store.cells = b) (l : List Transition) :
    rereadIfNamed selector (namedList n) (s.withSets (restoredSets n selector s) l) =
      (if rereads n selector s then s.recalibrated b else s).withSets
        (if rereads n selector s && calibrationGood b then mendedSets (restoredSets n selector s)
          else restoredSets n selector s)
        (l ++ if rereads n selector s && calibrationGood b then
          [⟨.calibrationDamaged, .cleared, .device, .restored⟩] else []) := by
  have condition : (selects selector .calibrationDamaged &&
      (namedList n).any (fun x => ((s.withSets (restoredSets n selector s) l).faults x).stands .calibrationDamaged) &&
      (s.withSets (restoredSets n selector s) l).store.operation.isNone) = rereads n selector s := by
    have stands : (namedList n).any (fun x => (restoredSets n selector s x).stands .calibrationDamaged) =
        [Side.left, .right].any fun x => names n x && (s.faults x).stands .calibrationDamaged := by
      simp only [stands_restored F, namedList]
      cases hl : names n .left <;> cases hr : names n .right <;> simp [hl, hr]
    rw [withSets_faults, stands, rereads, Bool.and_right_comm]
    rfl
  unfold rereadIfNamed
  rw [condition]
  cases rereads n selector s with
  | true =>
    simp only [Bool.true_and, if_true]
    exact reread_eq hb ..
  | false => exact congrArg (s.withSets _) (List.append_nil l).symm

/-- CALIBRATION_DAMAGED stands alike in both sets, so its removal is told once, under DEVICE. -/
theorem tells_mended {n selector : Nat} {s : State} (F : FaultLaw s) (h : rereads n selector s = true) :
    Tells .restored s (mendedSets (restoredSets n selector s))
      (restoredTold n selector s ++ [⟨.calibrationDamaged, .cleared, .device, .restored⟩]) := by
  have free x : (s.faults x).get .calibrationDamaged ≠ .held := fun held => ((F.2 x).1 _ held).2 rfl
  have alike x := F.alike (k := .calibrationDamaged) (by decide) x
  have stands : (s.faults .left).get .calibrationDamaged ≠ .absent := by
    unfold rereads at h
    rw [Bool.and_eq_true, List.any_eq_true] at h
    obtain ⟨-, x, -, hx⟩ := h
    rw [Bool.and_eq_true, FaultSet.stands, alike] at hx
    exact bne_iff_ne.1 hx.2
  have active : (s.faults .left).get .calibrationDamaged = .active := by
    cases member : (s.faults .left).get .calibrationDamaged with
    | absent => exact absurd member stands
    | active => rfl
    | held => exact absurd member (free .left)
  refine (tells_restored n selector F).device (k := .calibrationDamaged) (by decide)
    (fun x => by rw [restoredSets_get, if_neg fun h => free x h.2.2])
    (fun x j hj => FaultSet.get_set_of_ne _ _ hj) ⟨some (.cleared, .restored), fun x => ?_, rfl⟩
  rw [alike, active, mendedSets, FaultSet.get_set_self]
  rfl

/-! ## The event -/

section
variable {n selector : Nat} {s : State} {b : List Byte}

/-- The sets that RESTORE_VIEW leaves. -/
def restoreSets (b : List Byte) (n selector : Nat) (s : State) : Side → FaultSet :=
  if rereads n selector s && calibrationGood b then mendedSets (restoredSets n selector s)
  else restoredSets n selector s

theorem restoreSets_get (x : Side) (k : FaultKind) : (restoreSets b n selector s x).get k =
    if k = .calibrationDamaged ∧ (rereads n selector s && calibrationGood b) = true then .absent
    else if names n x = true ∧ selects selector k = true ∧ (s.faults x).get k = .held then .absent
    else (s.faults x).get k := by
  unfold restoreSets
  cases rereads n selector s && calibrationGood b with
  | true => simp only [if_true, mendedSets, FaultSet.get_set_eq, restoredSets_get, and_true]
  | false => simp [restoredSets_get]

/-- The part that settles: the calibration taken where it is read again. -/
def State.reread (b : List Byte) (n selector : Nat) (s : State) : State :=
  if rereads n selector s then s.recalibrated b else s

theorem reread_side (x : Side) : (s.reread b n selector).side x =
    { s.side x with
      geometry :=
        if rereads n selector s then boundedGeometry x (initBounds b x) (initMarkers b x) (s.side x).geometry
        else (s.side x).geometry } := by
  unfold State.reread
  cases rereads n selector s <;> cases x <;> rfl

theorem underlies_reread : Underlies s (s.reread b n selector) where
  now := by unfold State.reread; split <;> rfl
  reports := by unfold State.reread; split <;> rfl
  sup x := by rw [reread_side]
  gain x := by rw [reread_side]

/-- A re-read leaves all but the two sides and the part code (R180). -/
theorem reread_frame : s.reread b n selector = { s with
    left := (s.reread b n selector).left, right := (s.reread b n selector).right,
    link := { s.link with
      partCode :=
        if rereads n selector s && calibrationGood b then BitVec.ofNat 16 (uField b 0 2)
        else if rereads n selector s then 0 else s.link.partCode } } := by
  unfold State.reread
  cases rereads n selector s with
  | true => cases good : calibrationGood b <;> simp [State.recalibrated, initPartCode, good]
  | false => rfl

/-- The request before its reply. -/
theorem restoreView_settled (F : FaultLaw s) (V : ViewLaw s) (hs : s.handed = [])
    (hb : calibrationCells s.store.cells = b) : ∃ t,
    settle (rereadIfNamed selector (namedList n) ((namedList n).foldl (restoreSide selector) s)) = t ∧
      Reported s t ∧ HandedOn .restored [] s t ∧
      t = { s with
        left := t.left, right := t.right, reports := t.reports, handed := t.handed,
        link := { s.link with
          partCode :=
            if rereads n selector s && calibrationGood b then BitVec.ofNat 16 (uField b 0 2)
            else if rereads n selector s then 0 else s.link.partCode } } ∧
      ∀ x, ViewFollows x s t ∧ MapFollows x s t ∧ t.faults x = restoreSets b n selector s x ∧
        t.side x = { (s.reread b n selector).side x with
          sup := { (s.side x).sup with view := (t.side x).sup.view, faults := t.faults x },
          gain := (t.side x).gain } := by
  have tells : Tells .restored s (restoreSets b n selector s) (restoredTold n selector s ++
      if rereads n selector s && calibrationGood b then
        [⟨.calibrationDamaged, .cleared, .device, .restored⟩] else []) := by
    unfold restoreSets
    split
    · next mended => exact tells_mended F (Bool.and_eq_true_iff.1 mended).1
    · rw [List.append_nil]
      exact tells_restored n selector F
  obtain ⟨t, settled, reported, handedOn, rest, sides⟩ := settle_withSets tells V (underlies_reread (b := b))
  rw [reread_frame] at rest
  refine ⟨t, ?_, reported, handedOn, rest, fun x => ?_⟩
  · rw [restoreSides_eq n selector hs, rereadIfNamed_eq F hb]
    exact settled
  · obtain ⟨view, map, faults, side⟩ := sides x
    rw [underlies_reread.sup] at side
    exact ⟨view, map, faults, side⟩

end

theorem ownRestoreView_bad {p : List Byte} (h : 2 < uField p 0 1 ∨ 18 < uField p 1 1) (s : State) :
    ownRestoreView p s = answer s .badValue := by
  unfold ownRestoreView
  split
  · next sides range =>
    obtain code | selector := h
    · rw [namedSides_none code] at sides
      exact nomatch sides
    · exact absurd (of_decide_eq_true range) (Nat.not_le.2 selector)
  · rfl

theorem ownRestoreView_taken {p : List Byte} (hc : uField p 0 1 ≤ 2) (hs : uField p 1 1 ≤ 18) {s t : State}
    (e : settle (rereadIfNamed (uField p 1 1) (namedList (uField p 0 1))
      ((namedList (uField p 0 1)).foldl (restoreSide (uField p 1 1)) s)) = t) :
    ownRestoreView p s = answerWith t .ok ((namedList (uField p 0 1)).flatMap (restoreBytes t)) := by
  unfold ownRestoreView
  simp only [namedSides_eq hc, decide_eq_true hs, e]

/-- The windows stay sound: the bounds of the bytes read are valid (R93, R94). -/
theorem recalibrated_sound {x : Side} {g : Geometry} (h : geometrySound x g) (b : List Byte) :
    geometrySound x (boundedGeometry x (initBounds b x) (initMarkers b x) g) :=
  geometrySound_setBounds h (initBounds_valid b x) _

/-- RESTORE_VIEW with a valid side code and selector, the bytes of the calibration named. -/
theorem restoreView_taken {p : List Byte} {s : State} {b : List Byte} (tag : Byte) (h : Answerable .restoreView p s)
    (F : FaultLaw s) (V : ViewLaw s) (hb : calibrationCells s.store.cells = b) (hc : uField p 0 1 ≤ 2)
    (hs : uField p 1 1 ≤ 18) : ∃ t, exec (.restoreView tag p) s = .next t ∧ Reported s t ∧ HandedOn .restored [] s t ∧
      t = { s with
        left := t.left, right := t.right, reports := t.reports,
        link := { placedLink (countedLink s.link) (replyFrame (kindCode .restoreView) tag .ok
            ((if names (uField p 0 1) .left then restoreBytes t .left else []) ++
              (if names (uField p 0 1) .right then restoreBytes t .right else []))) with
          partCode :=
            if rereads (uField p 0 1) (uField p 1 1) s && calibrationGood b then BitVec.ofNat 16 (uField b 0 2)
            else if rereads (uField p 0 1) (uField p 1 1) s then 0 else s.link.partCode },
        out := [requestOutput p.length s], handed := t.handed } ∧
      ∀ x, ViewFollows x s t ∧ MapFollows x s t ∧
        t.faults x = restoreSets b (uField p 0 1) (uField p 1 1) s x ∧
        t.side x = { (s.reread b (uField p 0 1) (uField p 1 1)).side x with
          sup := { (s.side x).sup with view := (t.side x).sup.view, faults := t.faults x },
          gain := (t.side x).gain } := by
  obtain ⟨t, settled, reported, handedOn, rest, sides⟩ := restoreView_settled (n := uField p 0 1)
    (selector := uField p 1 1) (s := requestTaken p.length s) F V rfl hb
  refine ⟨_, exec_request_of_answer (k := .restoreView) tag h (ownRestoreView_taken hc hs settled), reported, handedOn,
    ?_, fun x => ?_⟩
  · rw [flatMap_namedList, rest]
    rfl
  · obtain ⟨view, map, faults, side⟩ := sides x
    refine ⟨view, map, faults, side.trans ?_⟩
    rw [reread_side, reread_side]
    rfl

/-- Settles O57: `restoreView_taken`, its sets and geometries written out by whether the calibration was read again. -/
theorem restoreViewRemovesHeldKindsAndRereads : Obligations.RestoreViewRemovesHeldKindsAndRereads := by
  intro tag p s h F V W
  refine ⟨fun bad => exec_request_unchanged (k := .restoreView) tag h (ownRestoreView_bad bad _), fun hc hs => ?_⟩
  have hb : calibrationCells s.store.cells = readCells s.store.cells 0 1024 := rfl
  generalize readCells s.store.cells 0 1024 = b at *
  obtain ⟨t, taken, reported, handedOn, rest, sides⟩ := restoreView_taken tag h F V hb hc hs
  have geometry x : (t.side x).geometry = if rereads (uField p 0 1) (uField p 1 1) s then
      boundedGeometry x (initBounds b x) (initMarkers b x) (s.side x).geometry else (s.side x).geometry := by
    rw [(sides x).2.2.2, reread_side]
  refine ⟨t, taken, reported, handedOn, fun x => ?_, ?_⟩
  · rw [geometry]
    split
    · exact recalibrated_sound (W x) b
    · exact W x
  simp only [← selects_iff]
  refine ⟨rest, fun x => ?_⟩
  obtain ⟨view, map, faults, side⟩ := sides x
  refine ⟨view, map, ?_, fun k => ?_, fun kept => ?_, fun mended => ?_, fun again failed => ?_⟩
  · rw [side, reread_side]
  · rw [faults, restoreSets_get]
    rfl
  · rw [geometry]
    exact if_neg (Bool.eq_false_iff.1 kept)
  · obtain ⟨again, good⟩ := Bool.and_eq_true_iff.1 mended
    rw [geometry, initBounds, initMarkers, if_pos good, if_pos good]
    exact if_pos again
  · have bad : ¬ calibrationGood b = true := fun good =>
      Bool.eq_false_iff.1 failed (Bool.and_eq_true_iff.2 ⟨again, good⟩)
    rw [geometry, initBounds, initMarkers, if_neg bad, if_neg bad]
    exact if_pos again

end Sys2Proof.Machine
